-- ==== Sys2Proof/Word.lean ====
section
/-! DEFINITION. The word types of the BDU: bytes, block words, output lanes, pixels. -/

namespace Sys2Proof

/-- One byte of a block: a register `BLK[i]` (10_state R22). -/
abbrev Byte := BitVec 8

/-- The sixteen bytes of a request's data operand, `d[0]` first in memory (30_encoding R60). -/
abbrev Block := Vector Byte 16

/-- A 64-bit word assembled from eight block bytes (00_scope R12). -/
abbrev Word64 := BitVec 64

/-- The 128-bit value `B128` of a block (10_state R23). -/
abbrev Word128 := BitVec 128

/-- The format code `FMT` (10_state R21). -/
abbrev FmtCode := BitVec 5

/-- One output lane `PX[p].c[k]` (10_state R26). -/
abbrev Lane := BitVec 16

/-- One output pixel: its four lanes `c[0..3]` (10_state R26). -/
structure Pixel where
  c0 : Lane
  c1 : Lane
  c2 : Lane
  c3 : Lane
deriving DecidableEq, Repr, Inhabited

/-- Lane `k` of a pixel. -/
def Pixel.lane (x : Pixel) (k : Fin 4) : Lane :=
  match k with
  | 0 => x.c0
  | 1 => x.c1
  | 2 => x.c2
  | 3 => x.c3

/-- The output block `PX[0..15]`, pixel `p = 4*y + x` (00_scope R13). -/
abbrev Pixels := Vector Pixel 16

end Sys2Proof
end

