-- ==== Sys2Proof/Syntax.lean ====
section
/-! DEFINITION. Syntax: the decode requests of 30_encoding R60 as instructions, the request as the requester hands it
over, the requester's actions (30_encoding R81, 60_exceptions R361), and a request as it is written down (R81). -/

namespace Sys2Proof

/-- One constructor per row of the opcode table (30_encoding R60, R66). The operand of each is the sixteen bytes
`d[0..15]` of the request; an 8-byte format carries all sixteen too, since the step latches them (10_state R22). -/
inductive Instr where
  /-- `DEC.ETC1_RGB8`, code 0, rule R135. -/
  | etc1Rgb8 (d : Block)
  /-- `DEC.EAC_R11`, code 1, rule R166. -/
  | eacR11 (d : Block)
  /-- `DEC.EAC_SIGNED_R11`, code 2, rule R167. -/
  | eacSignedR11 (d : Block)
  /-- `DEC.EAC_RG11`, code 3, rule R168. -/
  | eacRg11 (d : Block)
  /-- `DEC.EAC_SIGNED_RG11`, code 4, rule R169. -/
  | eacSignedRg11 (d : Block)
  /-- `DEC.ETC2_RGB8`, code 5, rule R136. -/
  | etc2Rgb8 (d : Block)
  /-- `DEC.ETC2_SRGB8`, code 6, rule R137. -/
  | etc2Srgb8 (d : Block)
  /-- `DEC.ETC2_RGB8_PTA1`, code 7, rule R138. -/
  | etc2Rgb8Pta1 (d : Block)
  /-- `DEC.ETC2_SRGB8_PTA1`, code 8, rule R139. -/
  | etc2Srgb8Pta1 (d : Block)
  /-- `DEC.ETC2_EAC_RGBA8`, code 9, rule R140. -/
  | etc2EacRgba8 (d : Block)
  /-- `DEC.ETC2_EAC_SRGB8_A8`, code 10, rule R141. -/
  | etc2EacSrgb8A8 (d : Block)
  /-- `DEC.BC1_RGB_UNORM`, code 11, rule R186. -/
  | bc1RgbUnorm (d : Block)
  /-- `DEC.BC1_RGB_SRGB`, code 12, rule R187. -/
  | bc1RgbSrgb (d : Block)
  /-- `DEC.BC1_RGBA_UNORM`, code 13, rule R188. -/
  | bc1RgbaUnorm (d : Block)
  /-- `DEC.BC1_RGBA_SRGB`, code 14, rule R189. -/
  | bc1RgbaSrgb (d : Block)
  /-- `DEC.BC2_UNORM`, code 15, rule R191. -/
  | bc2Unorm (d : Block)
  /-- `DEC.BC2_SRGB`, code 16, rule R192. -/
  | bc2Srgb (d : Block)
  /-- `DEC.BC3_UNORM`, code 17, rule R195. -/
  | bc3Unorm (d : Block)
  /-- `DEC.BC3_SRGB`, code 18, rule R196. -/
  | bc3Srgb (d : Block)
  /-- `DEC.BC4_UNORM`, code 19, rule R213. -/
  | bc4Unorm (d : Block)
  /-- `DEC.BC4_SNORM`, code 20, rule R214. -/
  | bc4Snorm (d : Block)
  /-- `DEC.BC5_UNORM`, code 21, rule R215. -/
  | bc5Unorm (d : Block)
  /-- `DEC.BC5_SNORM`, code 22, rule R216. -/
  | bc5Snorm (d : Block)
  /-- `DEC.BC6H_UFLOAT`, code 23, rule R264. -/
  | bc6hUfloat (d : Block)
  /-- `DEC.BC6H_SFLOAT`, code 24, rule R265. -/
  | bc6hSfloat (d : Block)
  /-- `DEC.BC7_UNORM`, code 25, rule R307. -/
  | bc7Unorm (d : Block)
  /-- `DEC.BC7_SRGB`, code 26, rule R308. -/
  | bc7Srgb (d : Block)
  /-- `RESERVED.27`, code 27, rule R66. -/
  | reserved27 (d : Block)
  /-- `RESERVED.28`, code 28, rule R66. -/
  | reserved28 (d : Block)
  /-- `RESERVED.29`, code 29, rule R66. -/
  | reserved29 (d : Block)
  /-- `RESERVED.30`, code 30, rule R66. -/
  | reserved30 (d : Block)
  /-- `RESERVED.31`, code 31, rule R66. -/
  | reserved31 (d : Block)
deriving DecidableEq, Repr

/-- The data operand of an instruction. -/
def Instr.block : Instr → Block
  | .etc1Rgb8 d => d
  | .eacR11 d => d
  | .eacSignedR11 d => d
  | .eacRg11 d => d
  | .eacSignedRg11 d => d
  | .etc2Rgb8 d => d
  | .etc2Srgb8 d => d
  | .etc2Rgb8Pta1 d => d
  | .etc2Srgb8Pta1 d => d
  | .etc2EacRgba8 d => d
  | .etc2EacSrgb8A8 d => d
  | .bc1RgbUnorm d => d
  | .bc1RgbSrgb d => d
  | .bc1RgbaUnorm d => d
  | .bc1RgbaSrgb d => d
  | .bc2Unorm d => d
  | .bc2Srgb d => d
  | .bc3Unorm d => d
  | .bc3Srgb d => d
  | .bc4Unorm d => d
  | .bc4Snorm d => d
  | .bc5Unorm d => d
  | .bc5Snorm d => d
  | .bc6hUfloat d => d
  | .bc6hSfloat d => d
  | .bc7Unorm d => d
  | .bc7Srgb d => d
  | .reserved27 d => d
  | .reserved28 d => d
  | .reserved29 d => d
  | .reserved30 d => d
  | .reserved31 d => d

/-- A request: the pair (`fmt[4:0]`, `d[0..15]`) (30_encoding R60). -/
structure Request where
  fmt : FmtCode
  d : Block
deriving DecidableEq, Repr

/-- What a requester does to one BDU (30_encoding R81, 70_reset_and_hazards R388): the `RESET` event, a `Decode`
step, and the two plain reads. -/
inductive Action where
  | reset
  | decode (r : Request)
  | readPx (p : Fin 16)
  | readStatus
deriving DecidableEq, Repr

/-- What a read hands back to the requester: a pixel's four lanes, or the two status bits. -/
inductive Reading where
  | px (p : Fin 16) (v : Pixel)
  | status (valid err : Bool)
deriving DecidableEq, Repr

/-- A request as it is written (30_encoding R81): the format code and the hexadecimal bytes, as plain numbers. -/
structure Written where
  code : Nat
  bytes : List Nat
deriving DecidableEq, Repr

end Sys2Proof
end

