-- ==== Sys2Proof/Machine/Format.lean ====
section
/-! DEFINITION. The identity of the hardware (00_scope R3) and the format registry: codes, legality, block sizes
(30_encoding R60, R61, R66). -/

namespace Sys2Proof

/-- The format code of an instruction (30_encoding R60). -/
def Instr.code : Instr → FmtCode
  | .etc1Rgb8 _ => 0
  | .eacR11 _ => 1
  | .eacSignedR11 _ => 2
  | .eacRg11 _ => 3
  | .eacSignedRg11 _ => 4
  | .etc2Rgb8 _ => 5
  | .etc2Srgb8 _ => 6
  | .etc2Rgb8Pta1 _ => 7
  | .etc2Srgb8Pta1 _ => 8
  | .etc2EacRgba8 _ => 9
  | .etc2EacSrgb8A8 _ => 10
  | .bc1RgbUnorm _ => 11
  | .bc1RgbSrgb _ => 12
  | .bc1RgbaUnorm _ => 13
  | .bc1RgbaSrgb _ => 14
  | .bc2Unorm _ => 15
  | .bc2Srgb _ => 16
  | .bc3Unorm _ => 17
  | .bc3Srgb _ => 18
  | .bc4Unorm _ => 19
  | .bc4Snorm _ => 20
  | .bc5Unorm _ => 21
  | .bc5Snorm _ => 22
  | .bc6hUfloat _ => 23
  | .bc6hSfloat _ => 24
  | .bc7Unorm _ => 25
  | .bc7Srgb _ => 26
  | .reserved27 _ => 27
  | .reserved28 _ => 28
  | .reserved29 _ => 29
  | .reserved30 _ => 30
  | .reserved31 _ => 31

namespace Machine

/-- The mnemonics of codes 0 to 26, in the order of the codes (30_encoding R60, R81). -/
def mnemonics : List String :=
  ["DEC.ETC1_RGB8", "DEC.EAC_R11", "DEC.EAC_SIGNED_R11", "DEC.EAC_RG11", "DEC.EAC_SIGNED_RG11", "DEC.ETC2_RGB8",
   "DEC.ETC2_SRGB8", "DEC.ETC2_RGB8_PTA1", "DEC.ETC2_SRGB8_PTA1", "DEC.ETC2_EAC_RGBA8", "DEC.ETC2_EAC_SRGB8_A8",
   "DEC.BC1_RGB_UNORM", "DEC.BC1_RGB_SRGB", "DEC.BC1_RGBA_UNORM", "DEC.BC1_RGBA_SRGB", "DEC.BC2_UNORM", "DEC.BC2_SRGB",
   "DEC.BC3_UNORM", "DEC.BC3_SRGB", "DEC.BC4_UNORM", "DEC.BC4_SNORM", "DEC.BC5_UNORM", "DEC.BC5_SNORM",
   "DEC.BC6H_UFLOAT", "DEC.BC6H_SFLOAT", "DEC.BC7_UNORM", "DEC.BC7_SRGB"]

/-- The identity a model carries (00_scope R3): there is no part number, no ISA string and no version of an instruction set. -/
structure Identity where
  name : String
  origin : String
  /-- "source revision": the document itself carries none, "v7" is the task scope note's -/
  revision : String
  formats : List String
deriving DecidableEq, Repr

/-- The hardware this model is of (00_scope R3), with its 27 block formats (30_encoding R60). -/
def identity : Identity where
  name := "BDU"
  origin := "KhronosGroup/VK-GL-CTS#sub060"
  revision := "v7"
  formats := mnemonics

/-- Width, height and depth of every format's block, in pixels (30_encoding R61). -/
def footprint : Nat × Nat × Nat := (4, 4, 1)

/-- Codes 0 to 26 name a format; 27 to 31 are reserved (10_state R21, 30_encoding R66). -/
def legalCode (fmt : FmtCode) : Bool := fmt.toNat ≤ 26

/-- The packed byte size of one block (30_encoding R61); a reserved code has none. -/
def blockBytes (fmt : FmtCode) : Nat :=
  if fmt.toNat ∈ [0, 1, 2, 5, 6, 7, 8, 11, 12, 13, 14, 19, 20] then 8
  else if fmt.toNat ∈ [3, 4, 9, 10, 15, 16, 17, 18, 21, 22, 23, 24, 25, 26] then 16
  else 0

/-- The codes labelled sRGB and their linear twins (30_encoding R63: the sRGB-named formats "write exactly the lanes
of their linear twins"). -/
def linearTwin (fmt : FmtCode) : FmtCode :=
  if fmt.toNat ∈ [6, 8, 10, 12, 14, 16, 18, 26] then fmt - 1 else fmt

end Machine

end Sys2Proof
end

