-- ==== Sys2Proof/WellFormed.lean ====
section
/-! DEFINITION. Well-formedness. A request that enters as numbers is checked here, once; what passes is an `Instr`, whose
type admits nothing ill-formed (a constructor carries exactly sixteen bytes of eight bits). -/

namespace Sys2Proof

/-- The code fits the 5-bit field `fmt` (10_state R21). -/
def Written.codeOk (w : Written) : Bool := w.code < 32

/-- Sixteen bytes, or eight for an 8-byte format (30_encoding R81: "`<hex bytes>` are 8 or 16 bytes"). -/
def Written.lengthOk (w : Written) : Bool :=
  w.bytes.length == 16 || (w.bytes.length == 8 && Machine.blockBytes (BitVec.ofNat 5 w.code) == 8)

/-- Every written byte is a two-digit hexadecimal number. -/
def Written.bytesOk (w : Written) : Bool := w.bytes.all (· < 256)

/-- A written request names an instruction. -/
def Written.wellFormed (w : Written) : Bool := w.codeOk && w.lengthOk && w.bytesOk

/-- An instruction as it is written, with all sixteen bytes. -/
def Instr.written (i : Instr) : Written := ⟨i.code.toNat, i.block.toList.map BitVec.toNat⟩

/-- A well-formed instruction: its written form passes every check. -/
def Instr.wellFormed (i : Instr) : Bool := i.written.wellFormed

end Sys2Proof
end

