-- ==== Sys2Proof/Decode.lean ====
section
/-! DEFINITION. Decoding and encoding of requests (30_encoding R60, R62, R66). A request is a pair; its serial form, a
133-bit word with `fmt` in bits 4:0 and `d[i]` in bits `12+8i : 5+8i`, carried in seventeen bytes, is the model's
reading (log entry 8): `mask = 0x1F`, `match = code`, "every request is 5 + 128 bits" (R69). -/

namespace Sys2Proof

/-- The closed match on `fmt` (30_encoding R62): every one of the 32 codes names a row. -/
def decodeRequest (r : Request) : Instr :=
  match r.fmt.toNat with
  | 0 => .etc1Rgb8 r.d
  | 1 => .eacR11 r.d
  | 2 => .eacSignedR11 r.d
  | 3 => .eacRg11 r.d
  | 4 => .eacSignedRg11 r.d
  | 5 => .etc2Rgb8 r.d
  | 6 => .etc2Srgb8 r.d
  | 7 => .etc2Rgb8Pta1 r.d
  | 8 => .etc2Srgb8Pta1 r.d
  | 9 => .etc2EacRgba8 r.d
  | 10 => .etc2EacSrgb8A8 r.d
  | 11 => .bc1RgbUnorm r.d
  | 12 => .bc1RgbSrgb r.d
  | 13 => .bc1RgbaUnorm r.d
  | 14 => .bc1RgbaSrgb r.d
  | 15 => .bc2Unorm r.d
  | 16 => .bc2Srgb r.d
  | 17 => .bc3Unorm r.d
  | 18 => .bc3Srgb r.d
  | 19 => .bc4Unorm r.d
  | 20 => .bc4Snorm r.d
  | 21 => .bc5Unorm r.d
  | 22 => .bc5Snorm r.d
  | 23 => .bc6hUfloat r.d
  | 24 => .bc6hSfloat r.d
  | 25 => .bc7Unorm r.d
  | 26 => .bc7Srgb r.d
  | 27 => .reserved27 r.d
  | 28 => .reserved28 r.d
  | 29 => .reserved29 r.d
  | 30 => .reserved30 r.d
  | _ => .reserved31 r.d

/-- Why a byte string is no request. -/
inductive Reject where
  /-- not seventeen bytes -/
  | badLength
  /-- one of the three bits above bit 132 is set: no bit of a request lies there -/
  | paddingSet
deriving DecidableEq, Repr

/-- A byte string as a number, first byte least significant. -/
def bytesToNat : List Byte → Nat
  | [] => 0
  | b :: bs => b.toNat + 256 * bytesToNat bs

/-- The first `k` bytes of a number, least significant first. -/
def natToBytes : Nat → Nat → List Byte
  | 0, _ => []
  | k + 1, n => BitVec.ofNat 8 n :: natToBytes k (n / 256)

/-- The request whose 133 bits are the number `n`. -/
def requestOfNat (n : Nat) : Request :=
  ⟨BitVec.ofNat 5 n, Vector.ofFn fun i => BitVec.ofNat 8 (n / 2 ^ (5 + 8 * i.val))⟩

/-- The 133 bits of a request as a number. -/
def requestToNat (r : Request) : Nat := r.fmt.toNat + 32 * bytesToNat r.d.toList

/-- Decoding of a byte string: total, refusing by name. -/
def decodeBytes (bs : List Byte) : Except Reject Instr :=
  if bs.length ≠ 17 then .error .badLength
  else if bytesToNat bs ≥ 2 ^ 133 then .error .paddingSet
  else .ok (decodeRequest (requestOfNat (bytesToNat bs)))

/-- The request an instruction stands for (30_encoding R60). -/
def Instr.request (i : Instr) : Request := ⟨i.code, i.block⟩

/-- The seventeen bytes of an instruction. -/
def encode (i : Instr) : List Byte := natToBytes 17 (requestToNat i.request)

/-- A written request as an instruction; an 8-byte request is filled up with `00` (30_encoding R81). -/
def Written.toInstr (w : Written) : Option Instr :=
  if w.wellFormed then
    some (decodeRequest ⟨BitVec.ofNat 5 w.code, Vector.ofFn fun i => BitVec.ofNat 8 (w.bytes.getD i.val 0)⟩)
  else none

/-- A request as it is written: a mnemonic of the registry and the hexadecimal bytes (30_encoding R81). -/
def Written.ofText (mnemonic : String) (bytes : List Nat) : Option Written :=
  (Machine.mnemonics.findIdx? (· == mnemonic)).map fun code => ⟨code, bytes⟩

/-- The instruction the decoder reads from an instruction whose bits are `w`, numbered as the opcode table numbers them;
every bit from `nbits` on is 0. -/
def decodeTableWord (nbits w : Nat) : Option Instr :=
  match decodeBytes (natToBytes 17 (w % 2 ^ nbits)) with
  | .ok i => some i
  | .error _ => none

end Sys2Proof
end

