-- ==== Sys2Proof/Machine/Operands.lean ====
section
/-! DEFINITION. The bit-field extractor BFX and the shared integer primitives (40_bitfield_extractor), the derived words
of a block (00_scope R12, 10_state R23), and the storing of a value in a lane (10_state R26). -/

namespace Sys2Proof.Machine

/-- `LE64(b0..b7)`: byte 0 least significant (00_scope R12). -/
def le64 (b0 b1 b2 b3 b4 b5 b6 b7 : Byte) : Word64 :=
  BitVec.ofNat 64 (b0.toNat + b1.toNat * 2 ^ 8 + b2.toNat * 2 ^ 16 + b3.toNat * 2 ^ 24 + b4.toNat * 2 ^ 32
    + b5.toNat * 2 ^ 40 + b6.toNat * 2 ^ 48 + b7.toNat * 2 ^ 56)

/-- `BE64(b0..b7)`: byte 0 most significant (00_scope R12). -/
def be64 (b0 b1 b2 b3 b4 b5 b6 b7 : Byte) : Word64 := le64 b7 b6 b5 b4 b3 b2 b1 b0

/-- `W0 = BE64(BLK[0..7])` (10_state R23). -/
def w0 (d : Block) : Word64 := be64 d[0] d[1] d[2] d[3] d[4] d[5] d[6] d[7]

/-- `W1 = BE64(BLK[8..15])` (10_state R23). -/
def w1 (d : Block) : Word64 := be64 d[8] d[9] d[10] d[11] d[12] d[13] d[14] d[15]

/-- `LO = LE64(BLK[0..7])` (10_state R23). -/
def lo (d : Block) : Word64 := le64 d[0] d[1] d[2] d[3] d[4] d[5] d[6] d[7]

/-- `HI = LE64(BLK[8..15])` (10_state R23). -/
def hi (d : Block) : Word64 := le64 d[8] d[9] d[10] d[11] d[12] d[13] d[14] d[15]

/-- The pair (`LO`, `HI`) as one number `LO + HI * 2^64` (40_bitfield_extractor R103). -/
def join128 (l h : Word64) : Word128 := BitVec.ofNat 128 (l.toNat + h.toNat * 2 ^ 64)

/-- `B128 = LO + HI * 2^64` (10_state R23). -/
def b128 (d : Block) : Word128 := join128 (lo d) (hi d)

/-- `v[hi:lo]`, both ends inclusive, as a number (00_scope R10). -/
def slice (v lo hi : Nat) : Nat := v / 2 ^ lo % 2 ^ (hi - lo + 1)

/-- `bit(w, n)` (40_bitfield_extractor R101). Outside 0..63 it has no meaning: a use must prove its range (R105). -/
def bit (w : Word64) (n : Nat) (_inRange : n ≤ 63 := by omega) : Nat := w.toNat / 2 ^ n % 2

/-- `bits(w, lo, hi)` (40_bitfield_extractor R102), with the same proof of range (R105). -/
def bits (w : Word64) (lo hi : Nat) (_inRange : lo ≤ hi ∧ hi ≤ 63 ∧ hi - lo + 1 ≤ 32 := by omega) : Nat :=
  slice w.toNat lo hi

/-- `rev_n(v)`: bit `i` of the result is bit `n-1-i` of `v` (40_bitfield_extractor R103 (2)). -/
def revBits : Nat → Nat → Nat
  | 0, _ => 0
  | n + 1, v => (v % 2) * 2 ^ n + revBits n (v / 2)

/-- `bits128(first, last)` (40_bitfield_extractor R103): forward when `first <= last`, reversed when `first > last`, no
result outside 0..127 (R105, 60_exceptions R354: "should refuse"). -/
def bits128 (b : Word128) (first last : Nat) : Option Nat :=
  if first ≤ 127 ∧ last ≤ 127 then
    if first ≤ last then some (slice b.toNat first last)
    else some (revBits (first - last + 1) (slice b.toNat last first))
  else none

/-- `sext_N(v)` (40_bitfield_extractor R104): the low `n` bits of `v` as two's complement. -/
def sext (n v : Nat) : Int :=
  if 2 ^ n ≤ 2 * (v % 2 ^ n) then (v % 2 ^ n : Nat) - 2 ^ n else (v % 2 ^ n : Nat)

/-- `ext4` (40_bitfield_extractor R106). -/
def ext4 (v : Nat) : Nat := v * 16 + v

/-- `ext5` (40_bitfield_extractor R107). -/
def ext5 (v : Nat) : Nat := v * 8 + v / 4

/-- `ext6` (40_bitfield_extractor R108). -/
def ext6 (v : Nat) : Nat := v * 4 + v / 16

/-- `ext7` (40_bitfield_extractor R109). -/
def ext7 (v : Nat) : Nat := v * 2 + v / 64

/-- `rep8(v, n)` (40_bitfield_extractor R110). -/
def rep8 (v n : Nat) : Nat := (v * 2 ^ (8 - n) + v * 2 ^ (8 - n) / 2 ^ n) % 256

/-- `ext11u` (40_bitfield_extractor R111). -/
def ext11u (v : Nat) : Nat := v * 32 + v / 64

/-- `ext11s` (40_bitfield_extractor R112). -/
def ext11s (v : Int) : Int := if 0 ≤ v then (ext11u v.toNat : Int) else -(ext11u (-v).toNat : Int)

/-- `clamp(v, lo, hi)` (40_bitfield_extractor R113). -/
def clamp (v lo hi : Int) : Int := if v < lo then lo else if v > hi then hi else v

/-- `clamp(v, 0, 255)` as a number. -/
def clamp8 (v : Int) : Nat := (clamp v 0 255).toNat

/-- `v >> n` on a mathematical integer: floor division by `2^n` (00_scope R10, 40_bitfield_extractor R116). -/
def shr (v : Int) (n : Nat) : Int := v / 2 ^ n

/-- A non-negative result in a lane (10_state R26). -/
def laneN (v : Nat) : Lane := BitVec.ofNat 16 v

/-- A signed result in a lane: 16-bit two's complement (10_state R26, 40_bitfield_extractor R114 (d)). -/
def laneZ (v : Int) : Lane := BitVec.ofInt 16 v

/-- The output block whose pixel `p` is `f p` (10_state R24: the order of the pixels is not observable). -/
def pixels (f : Fin 16 → Pixel) : Pixels := Vector.ofFn f

/-- Four 8-bit channel values, as the ETC, BC1 to BC3 and BC7 rules compute them. -/
structure Rgba where
  r : Nat
  g : Nat
  b : Nat
  a : Nat
deriving DecidableEq, Repr

/-- The lanes of a pixel with alpha (30_encoding R63). -/
def Rgba.pixel (v : Rgba) : Pixel := ⟨laneN v.r, laneN v.g, laneN v.b, laneN v.a⟩

/-- The lanes of a pixel without alpha: lane 3 is 0 (30_encoding R63, 10_state R26). -/
def Rgba.pixelRgb (v : Rgba) : Pixel := ⟨laneN v.r, laneN v.g, laneN v.b, 0⟩

/-- The coded pixel index of output pixel `p` in the column-major formats, ETC and EAC: `q = 4*x + y` with
`x = p mod 4`, `y = p div 4` (00_scope R13). In the BC formats the coded index is `p` itself. -/
def columnMajor (p : Fin 16) : Fin 16 := ⟨4 * (p.val % 4) + p.val / 4, by omega⟩

end Sys2Proof.Machine
end

