-- ==== Sys2Proof/Config.lean ====
section
/-! DEFINITION. What an implementation fixes (00_scope R7) and the free values. The values that the spec prints for the literal
tables stand in Machine/Tables.lean under this namespace. -/

namespace Sys2Proof

/-- A colour channel, the second argument of `draw` in 41_etc1_etc2 R127. -/
inductive Channel where
  | r
  | g
  | b
deriving DecidableEq, Repr

namespace Config

/-- The parameter `P_ETC1_OVF` (00_scope R7, 41_etc1_etc2 R127): what base colour an ETC1 differential sum outside 0..31
gives. -/
inductive Etc1Ovf where
  /-- any value, a function of the colour word and the channel only (the spec's default) -/
  | draw
  /-- the sum modulo 256, widened as a 5-bit value with 8-bit wrap -/
  | wrap8
  /-- the sum modulo 32, widened -/
  | wrap5
deriving DecidableEq, Repr

/-- One row of `TAB_P2` and `TAB_A2` (45_shared_tables R231): bit `p` of `mask` is 1 when pixel `p` is in subset 1;
`anchor` is the second anchor. -/
structure Part2 where
  mask : Nat
  anchor : Nat
deriving DecidableEq, Repr

/-- One row of `TAB_P3`, `TAB_A3a` and `TAB_A3b` (45_shared_tables R232): the masks of subsets 1 and 2 and their anchors. -/
structure Part3 where
  mask1 : Nat
  mask2 : Nat
  anchor1 : Nat
  anchor2 : Nat
deriving DecidableEq, Repr

/-- A field of a BC6H header (46_bc6h R253): channel `c` of endpoint `e`, or the partition number. -/
inductive HeaderField where
  | ep (e : Nat) (c : Channel)
  | part
deriving DecidableEq, Repr

/-- One cell "`hi:lo` | `f[a:b]`" of a BC6H layout (46_bc6h R253): block bit `hi` is bit `a` of field `f` and block bit `lo`
is bit `b`. With `a < b` the field bits descend as the block bits ascend. -/
structure Cell where
  hi : Nat
  lo : Nat
  field : HeaderField
  a : Nat
  b : Nat
deriving DecidableEq, Repr

/-- One mode of BC6H: its mode field, `modeBits` bits of the value `modeValue` (46_bc6h R250), its properties (R251) and its
header layout (R254). -/
structure Bc6hMode where
  modeBits : Nat
  modeValue : Nat
  epBits : Nat
  dBitsR : Nat
  dBitsG : Nat
  dBitsB : Nat
  ns : Nat
  tr : Bool
  n : Nat
  cells : List Cell
deriving DecidableEq, Repr

/-- Which P bits a BC7 mode stores (47_bc7 R292). -/
inductive PKind where
  | none
  | perEndpoint
  | perSubset
deriving DecidableEq, Repr

/-- What a BC7 mode declares (47_bc7 R292): subsets, partition bits, rotation bits, index-selection bits, colour bits, alpha
bits, P bits, first and second index width (0 for no second stream). -/
structure Bc7Mode where
  ns : Nat
  pb : Nat
  rot : Nat
  isel : Nat
  cb : Nat
  ab : Nat
  p : PKind
  n1 : Nat
  n2 : Nat
deriving DecidableEq, Repr

/-- The literal tables `TAB_*`, the BC6H mode, layout and property table and the BC7 mode table: configuration that a model takes
as arguments (00_scope R7, 93_implementation_defined I9 and section 3, 92_eei_decisions D26). The values the spec prints are
`Config.Tables.printed` in Machine/Tables.lean. -/
structure Tables where
  /-- `TAB_ETC_MOD[t][i]` (41_etc1_etc2 R124) -/
  etcMod : Vector (Vector Int 4) 8
  /-- `TAB_ETC_DIST[i]` (41_etc1_etc2 R129) -/
  etcDist : Vector Int 8
  /-- `TAB_EAC_MOD[t][i]` (42_eac R161) -/
  eacMod : Vector (Vector Int 8) 16
  /-- `TAB_P2` and `TAB_A2` (45_shared_tables R231) -/
  p2 : Vector Part2 64
  /-- `TAB_P3`, `TAB_A3a` and `TAB_A3b` (45_shared_tables R232) -/
  p3 : Vector Part3 64
  /-- `TAB_W2` (45_shared_tables R235) -/
  w2 : Vector Nat 4
  /-- `TAB_W3` (45_shared_tables R235) -/
  w3 : Vector Nat 8
  /-- `TAB_W4` (45_shared_tables R235) -/
  w4 : Vector Nat 16
  /-- the modes m0 to m13 of BC6H (46_bc6h R250, R251, R254) -/
  bc6hModes : Vector Bc6hMode 14
  /-- the eight modes of BC7 (47_bc7 R292) -/
  bc7Modes : Vector Bc7Mode 8
deriving DecidableEq, Repr

/-- The parameters a model takes as arguments (00_scope R7, 93_implementation_defined section 3), but for `N_INSTANCES`, the
number of units of a platform (Machine/Platform.lean). -/
structure Params where
  /-- `P_SNORM_CLAMP` (44_bc4_bc5 R211): the signed endpoint -128 is replaced by -127 before the ramp is built -/
  snormClamp : Bool
  /-- `P_ETC1_OVF` -/
  etc1Ovf : Etc1Ovf
  /-- `TAB_*` -/
  tables : Tables
deriving DecidableEq, Repr

/-- `draw(8; C, channel)` (00_scope R11, 41_etc1_etc2 R127): an uninterpreted function of the colour word and the channel.
FREE VALUE, log entry 4: no body, so nothing can be proved of its values. -/
opaque draw8 : Word64 → Channel → BitVec 8

/-- What stands in lane `k` of `PX[p]` after the `n`-th `IllegalFormat` (60_exceptions R351: "`PX[0..15].c[0..3]` hold no
value"). FREE VALUE, log entry 3. -/
opaque lostLane : (n : Nat) → (p : Fin 16) → (k : Fin 4) → Lane

/-- The bytes of the destination texel a requester makes of a BC4 or BC5 pixel (48_tiler_contract R336: "not fixed by
sub060"; the requester converts `M` "to whatever it uses"). FREE VALUE, log entry 13. -/
opaque rampTexel : FmtCode → Pixel → List Byte

end Config

end Sys2Proof
end

