-- ==== Sys2Proof/Machine/Tables.lean ====
section
/-! DEFINITION. The values the spec prints for the literal tables `TAB_*` (00_scope R7), and the default parameters with these
tables. The spec marks every value as general knowledge: UNVERIFIED, log entry 10. -/

namespace Sys2Proof.Config

/-- `TAB_ETC_MOD[t][i]` (41_etc1_etc2 R124). -/
def tabEtcMod : Vector (Vector Int 4) 8 :=
  #v[#v[2, 8, -2, -8],
    #v[5, 17, -5, -17],
    #v[9, 29, -9, -29],
    #v[13, 42, -13, -42],
    #v[18, 60, -18, -60],
    #v[24, 80, -24, -80],
    #v[33, 106, -33, -106],
    #v[47, 183, -47, -183]]

/-- `TAB_ETC_DIST[0..7]` (41_etc1_etc2 R129). -/
def tabEtcDist : Vector Int 8 := #v[3, 6, 11, 16, 23, 32, 41, 64]

/-- `TAB_EAC_MOD[t][i]` (42_eac R161). -/
def tabEacMod : Vector (Vector Int 8) 16 :=
  #v[#v[-3, -6, -9, -15, 2, 5, 8, 14],
    #v[-3, -7, -10, -13, 2, 6, 9, 12],
    #v[-2, -5, -8, -13, 1, 4, 7, 12],
    #v[-2, -4, -6, -13, 1, 3, 5, 12],
    #v[-3, -6, -8, -12, 2, 5, 7, 11],
    #v[-3, -7, -9, -11, 2, 6, 8, 10],
    #v[-4, -7, -8, -11, 3, 6, 7, 10],
    #v[-3, -5, -8, -11, 2, 4, 7, 10],
    #v[-2, -6, -8, -10, 1, 5, 7, 9],
    #v[-2, -5, -8, -10, 1, 4, 7, 9],
    #v[-2, -4, -8, -10, 1, 3, 7, 9],
    #v[-2, -5, -7, -10, 1, 4, 6, 9],
    #v[-3, -4, -7, -10, 2, 3, 6, 9],
    #v[-1, -2, -3, -10, 0, 1, 2, 9],
    #v[-4, -6, -8, -9, 3, 5, 7, 8],
    #v[-3, -5, -7, -9, 2, 4, 6, 8]]

/-- Rows 0 to 15 of the two-subset partitions with their anchors (45_shared_tables R231). -/
def tabP2rows0 : Vector Part2 16 :=
  #v[⟨0xCCCC, 15⟩,
    ⟨0x8888, 15⟩,
    ⟨0xEEEE, 15⟩,
    ⟨0xECC8, 15⟩,
    ⟨0xC880, 15⟩,
    ⟨0xFEEC, 15⟩,
    ⟨0xFEC8, 15⟩,
    ⟨0xEC80, 15⟩,
    ⟨0xC800, 15⟩,
    ⟨0xFFEC, 15⟩,
    ⟨0xFE80, 15⟩,
    ⟨0xE800, 15⟩,
    ⟨0xFFE8, 15⟩,
    ⟨0xFF00, 15⟩,
    ⟨0xFFF0, 15⟩,
    ⟨0xF000, 15⟩]

/-- Rows 16 to 31 of the two-subset partitions with their anchors (45_shared_tables R231). -/
def tabP2rows16 : Vector Part2 16 :=
  #v[⟨0xF710, 15⟩,
    ⟨0x008E, 2⟩,
    ⟨0x7100, 8⟩,
    ⟨0x08CE, 2⟩,
    ⟨0x008C, 2⟩,
    ⟨0x7310, 8⟩,
    ⟨0x3100, 8⟩,
    ⟨0x8CCE, 15⟩,
    ⟨0x088C, 2⟩,
    ⟨0x3110, 8⟩,
    ⟨0x6666, 2⟩,
    ⟨0x366C, 2⟩,
    ⟨0x17E8, 8⟩,
    ⟨0x0FF0, 8⟩,
    ⟨0x718E, 2⟩,
    ⟨0x399C, 2⟩]

/-- Rows 32 to 47 of the two-subset partitions with their anchors (45_shared_tables R231). -/
def tabP2rows32 : Vector Part2 16 :=
  #v[⟨0xAAAA, 15⟩,
    ⟨0xF0F0, 15⟩,
    ⟨0x5A5A, 6⟩,
    ⟨0x33CC, 8⟩,
    ⟨0x3C3C, 2⟩,
    ⟨0x55AA, 8⟩,
    ⟨0x9696, 15⟩,
    ⟨0xA55A, 15⟩,
    ⟨0x73CE, 2⟩,
    ⟨0x13C8, 8⟩,
    ⟨0x324C, 2⟩,
    ⟨0x3BDC, 2⟩,
    ⟨0x6996, 2⟩,
    ⟨0xC33C, 15⟩,
    ⟨0x9966, 15⟩,
    ⟨0x0660, 6⟩]

/-- Rows 48 to 63 of the two-subset partitions with their anchors (45_shared_tables R231). -/
def tabP2rows48 : Vector Part2 16 :=
  #v[⟨0x0272, 6⟩,
    ⟨0x04E4, 2⟩,
    ⟨0x4E40, 6⟩,
    ⟨0x2720, 8⟩,
    ⟨0xC936, 15⟩,
    ⟨0x936C, 15⟩,
    ⟨0x39C6, 2⟩,
    ⟨0x639C, 2⟩,
    ⟨0x9336, 15⟩,
    ⟨0x9CC6, 15⟩,
    ⟨0x817E, 15⟩,
    ⟨0xE718, 15⟩,
    ⟨0xCCF0, 15⟩,
    ⟨0x0FCC, 2⟩,
    ⟨0x7744, 2⟩,
    ⟨0xEE22, 15⟩]

/-- The two-subset partitions with their anchors (45_shared_tables R231). -/
def tabP2 : Vector Part2 64 := tabP2rows0 ++ tabP2rows16 ++ tabP2rows32 ++ tabP2rows48

/-- Rows 0 to 15 of the three-subset partitions with their anchors (45_shared_tables R232). -/
def tabP3rows0 : Vector Part3 16 :=
  #v[⟨0x08CC, 0xF600, 3, 15⟩,
    ⟨0x8CC8, 0x7300, 3, 8⟩,
    ⟨0xCC80, 0x3310, 15, 8⟩,
    ⟨0xEC00, 0x00CE, 15, 3⟩,
    ⟨0x3300, 0xCC00, 8, 15⟩,
    ⟨0x00CC, 0xCC00, 3, 15⟩,
    ⟨0xFF00, 0x00CC, 15, 3⟩,
    ⟨0xCCCC, 0x3300, 15, 8⟩,
    ⟨0x0F00, 0xF000, 8, 15⟩,
    ⟨0x0FF0, 0xF000, 8, 15⟩,
    ⟨0x00F0, 0xFF00, 6, 15⟩,
    ⟨0x4444, 0x8888, 6, 15⟩,
    ⟨0x6666, 0x8888, 6, 15⟩,
    ⟨0x2222, 0xCCCC, 5, 15⟩,
    ⟨0x136C, 0xEC80, 3, 15⟩,
    ⟨0x008C, 0x7310, 3, 8⟩]

/-- Rows 16 to 31 of the three-subset partitions with their anchors (45_shared_tables R232). -/
def tabP3rows16 : Vector Part3 16 :=
  #v[⟨0x36C8, 0xC800, 3, 15⟩,
    ⟨0x08CE, 0x3100, 3, 8⟩,
    ⟨0x3330, 0xCCC0, 8, 15⟩,
    ⟨0xF000, 0x0CCC, 15, 3⟩,
    ⟨0x00EE, 0xEE00, 3, 15⟩,
    ⟨0x8888, 0x7700, 3, 8⟩,
    ⟨0x22C0, 0xCC00, 6, 15⟩,
    ⟨0x4430, 0x3300, 10, 8⟩,
    ⟨0x0C22, 0x00CC, 5, 3⟩,
    ⟨0x0344, 0xFC88, 8, 15⟩,
    ⟨0x6996, 0x0660, 8, 6⟩,
    ⟨0x9960, 0x6600, 6, 10⟩,
    ⟨0x0330, 0xC88C, 8, 15⟩,
    ⟨0x0066, 0xF900, 5, 15⟩,
    ⟨0xC22C, 0x0CC0, 15, 10⟩,
    ⟨0x8C00, 0x7310, 15, 8⟩]

/-- Rows 32 to 47 of the three-subset partitions with their anchors (45_shared_tables R232). -/
def tabP3rows32 : Vector Part3 16 :=
  #v[⟨0x1300, 0xEC80, 8, 15⟩,
    ⟨0xC400, 0x08CE, 15, 3⟩,
    ⟨0x004C, 0xEC80, 3, 15⟩,
    ⟨0x2222, 0x4444, 5, 10⟩,
    ⟨0x00F0, 0x0F00, 6, 10⟩,
    ⟨0x2492, 0x4924, 10, 8⟩,
    ⟨0x2942, 0x4294, 8, 9⟩,
    ⟨0xC30C, 0x0C30, 15, 10⟩,
    ⟨0xC03C, 0x03C0, 15, 6⟩,
    ⟨0x00AA, 0xFF00, 3, 15⟩,
    ⟨0xAA00, 0x5500, 15, 8⟩,
    ⟨0x3030, 0xCCCC, 5, 15⟩,
    ⟨0xC0C0, 0x0C0C, 15, 3⟩,
    ⟨0x9090, 0x6666, 15, 6⟩,
    ⟨0xA00A, 0x0FF0, 15, 6⟩,
    ⟨0xAAA0, 0x5550, 15, 8⟩]

/-- Rows 48 to 63 of the three-subset partitions with their anchors (45_shared_tables R232). -/
def tabP3rows48 : Vector Part3 16 :=
  #v[⟨0x0AAA, 0xF000, 3, 15⟩,
    ⟨0xE0E0, 0x0E0E, 15, 3⟩,
    ⟨0x7070, 0x8888, 5, 15⟩,
    ⟨0x6660, 0x9990, 5, 15⟩,
    ⟨0x0EE0, 0xE00E, 5, 15⟩,
    ⟨0x0770, 0x8888, 8, 15⟩,
    ⟨0x0666, 0xF000, 5, 15⟩,
    ⟨0x6600, 0x9900, 10, 15⟩,
    ⟨0x0066, 0xFF00, 5, 15⟩,
    ⟨0x0CC0, 0xC00C, 10, 15⟩,
    ⟨0x0330, 0xCCCC, 8, 15⟩,
    ⟨0x6000, 0x9000, 13, 15⟩,
    ⟨0x8080, 0x0808, 15, 3⟩,
    ⟨0x1010, 0xEEEE, 12, 15⟩,
    ⟨0x000A, 0xFFF0, 3, 15⟩,
    ⟨0x08CE, 0x7310, 3, 8⟩]

/-- The three-subset partitions with their anchors (45_shared_tables R232). -/
def tabP3 : Vector Part3 64 := tabP3rows0 ++ tabP3rows16 ++ tabP3rows32 ++ tabP3rows48

/-- `TAB_W2` (45_shared_tables R235). -/
def tabW2 : Vector Nat 4 := #v[0, 21, 43, 64]

/-- `TAB_W3` (45_shared_tables R235). -/
def tabW3 : Vector Nat 8 := #v[0, 9, 18, 27, 37, 46, 55, 64]

/-- `TAB_W4` (45_shared_tables R235). -/
def tabW4 : Vector Nat 16 := #v[0, 4, 9, 13, 17, 21, 26, 30, 34, 38, 43, 47, 51, 55, 60, 64]

/-- Header layout of mode m0, mode field `00` (46_bc6h R254). -/
def bc6hCells0 : List Cell :=
  [⟨2, 2, .ep 2 .g, 4, 4⟩, ⟨3, 3, .ep 2 .b, 4, 4⟩, ⟨4, 4, .ep 3 .b, 4, 4⟩, ⟨14, 5, .ep 0 .r, 9, 0⟩, ⟨24, 15, .ep 0 .g, 9, 0⟩,
   ⟨34, 25, .ep 0 .b, 9, 0⟩, ⟨39, 35, .ep 1 .r, 4, 0⟩, ⟨40, 40, .ep 3 .g, 4, 4⟩, ⟨44, 41, .ep 2 .g, 3, 0⟩, ⟨49, 45, .ep 1 .g, 4, 0⟩,
   ⟨50, 50, .ep 3 .b, 0, 0⟩, ⟨54, 51, .ep 3 .g, 3, 0⟩, ⟨59, 55, .ep 1 .b, 4, 0⟩, ⟨60, 60, .ep 3 .b, 1, 1⟩, ⟨64, 61, .ep 2 .b, 3, 0⟩,
   ⟨69, 65, .ep 2 .r, 4, 0⟩, ⟨70, 70, .ep 3 .b, 2, 2⟩, ⟨75, 71, .ep 3 .r, 4, 0⟩, ⟨76, 76, .ep 3 .b, 3, 3⟩, ⟨81, 77, .part, 4, 0⟩]

/-- Header layout of mode m1, mode field `01` (46_bc6h R254). -/
def bc6hCells1 : List Cell :=
  [⟨2, 2, .ep 2 .g, 5, 5⟩, ⟨3, 3, .ep 3 .g, 4, 4⟩, ⟨4, 4, .ep 3 .g, 5, 5⟩, ⟨11, 5, .ep 0 .r, 6, 0⟩, ⟨12, 12, .ep 3 .b, 0, 0⟩,
   ⟨13, 13, .ep 3 .b, 1, 1⟩, ⟨14, 14, .ep 2 .b, 4, 4⟩, ⟨21, 15, .ep 0 .g, 6, 0⟩, ⟨22, 22, .ep 2 .b, 5, 5⟩, ⟨23, 23, .ep 3 .b, 2, 2⟩,
   ⟨24, 24, .ep 2 .g, 4, 4⟩, ⟨31, 25, .ep 0 .b, 6, 0⟩, ⟨32, 32, .ep 3 .b, 3, 3⟩, ⟨33, 33, .ep 3 .b, 5, 5⟩, ⟨34, 34, .ep 3 .b, 4, 4⟩,
   ⟨40, 35, .ep 1 .r, 5, 0⟩, ⟨44, 41, .ep 2 .g, 3, 0⟩, ⟨50, 45, .ep 1 .g, 5, 0⟩, ⟨54, 51, .ep 3 .g, 3, 0⟩, ⟨60, 55, .ep 1 .b, 5, 0⟩,
   ⟨64, 61, .ep 2 .b, 3, 0⟩, ⟨70, 65, .ep 2 .r, 5, 0⟩, ⟨76, 71, .ep 3 .r, 5, 0⟩, ⟨81, 77, .part, 4, 0⟩]

/-- Header layout of mode m2, mode field `00010` (46_bc6h R254). -/
def bc6hCells2 : List Cell :=
  [⟨14, 5, .ep 0 .r, 9, 0⟩, ⟨24, 15, .ep 0 .g, 9, 0⟩, ⟨34, 25, .ep 0 .b, 9, 0⟩, ⟨39, 35, .ep 1 .r, 4, 0⟩, ⟨40, 40, .ep 0 .r, 10, 10⟩,
   ⟨44, 41, .ep 2 .g, 3, 0⟩, ⟨48, 45, .ep 1 .g, 3, 0⟩, ⟨49, 49, .ep 0 .g, 10, 10⟩, ⟨50, 50, .ep 3 .b, 0, 0⟩, ⟨54, 51, .ep 3 .g, 3, 0⟩,
   ⟨58, 55, .ep 1 .b, 3, 0⟩, ⟨59, 59, .ep 0 .b, 10, 10⟩, ⟨60, 60, .ep 3 .b, 1, 1⟩, ⟨64, 61, .ep 2 .b, 3, 0⟩, ⟨69, 65, .ep 2 .r, 4, 0⟩,
   ⟨70, 70, .ep 3 .b, 2, 2⟩, ⟨75, 71, .ep 3 .r, 4, 0⟩, ⟨76, 76, .ep 3 .b, 3, 3⟩, ⟨81, 77, .part, 4, 0⟩]

/-- Header layout of mode m3, mode field `00110` (46_bc6h R254). -/
def bc6hCells3 : List Cell :=
  [⟨14, 5, .ep 0 .r, 9, 0⟩, ⟨24, 15, .ep 0 .g, 9, 0⟩, ⟨34, 25, .ep 0 .b, 9, 0⟩, ⟨38, 35, .ep 1 .r, 3, 0⟩, ⟨39, 39, .ep 0 .r, 10, 10⟩,
   ⟨40, 40, .ep 3 .g, 4, 4⟩, ⟨44, 41, .ep 2 .g, 3, 0⟩, ⟨49, 45, .ep 1 .g, 4, 0⟩, ⟨50, 50, .ep 0 .g, 10, 10⟩, ⟨54, 51, .ep 3 .g, 3, 0⟩,
   ⟨58, 55, .ep 1 .b, 3, 0⟩, ⟨59, 59, .ep 0 .b, 10, 10⟩, ⟨60, 60, .ep 3 .b, 1, 1⟩, ⟨64, 61, .ep 2 .b, 3, 0⟩, ⟨68, 65, .ep 2 .r, 3, 0⟩,
   ⟨69, 69, .ep 3 .b, 0, 0⟩, ⟨70, 70, .ep 3 .b, 2, 2⟩, ⟨74, 71, .ep 3 .r, 3, 0⟩, ⟨75, 75, .ep 2 .g, 4, 4⟩, ⟨76, 76, .ep 3 .b, 3, 3⟩,
   ⟨81, 77, .part, 4, 0⟩]

/-- Header layout of mode m4, mode field `01010` (46_bc6h R254). -/
def bc6hCells4 : List Cell :=
  [⟨14, 5, .ep 0 .r, 9, 0⟩, ⟨24, 15, .ep 0 .g, 9, 0⟩, ⟨34, 25, .ep 0 .b, 9, 0⟩, ⟨38, 35, .ep 1 .r, 3, 0⟩, ⟨39, 39, .ep 0 .r, 10, 10⟩,
   ⟨40, 40, .ep 2 .b, 4, 4⟩, ⟨44, 41, .ep 2 .g, 3, 0⟩, ⟨48, 45, .ep 1 .g, 3, 0⟩, ⟨49, 49, .ep 0 .g, 10, 10⟩, ⟨50, 50, .ep 3 .b, 0, 0⟩,
   ⟨54, 51, .ep 3 .g, 3, 0⟩, ⟨59, 55, .ep 1 .b, 4, 0⟩, ⟨60, 60, .ep 0 .b, 10, 10⟩, ⟨64, 61, .ep 2 .b, 3, 0⟩, ⟨68, 65, .ep 2 .r, 3, 0⟩,
   ⟨69, 69, .ep 3 .b, 1, 1⟩, ⟨70, 70, .ep 3 .b, 2, 2⟩, ⟨74, 71, .ep 3 .r, 3, 0⟩, ⟨75, 75, .ep 3 .b, 4, 4⟩, ⟨76, 76, .ep 3 .b, 3, 3⟩,
   ⟨81, 77, .part, 4, 0⟩]

/-- Header layout of mode m5, mode field `01110` (46_bc6h R254). -/
def bc6hCells5 : List Cell :=
  [⟨13, 5, .ep 0 .r, 8, 0⟩, ⟨14, 14, .ep 2 .b, 4, 4⟩, ⟨23, 15, .ep 0 .g, 8, 0⟩, ⟨24, 24, .ep 2 .g, 4, 4⟩, ⟨33, 25, .ep 0 .b, 8, 0⟩,
   ⟨34, 34, .ep 3 .b, 4, 4⟩, ⟨39, 35, .ep 1 .r, 4, 0⟩, ⟨40, 40, .ep 3 .g, 4, 4⟩, ⟨44, 41, .ep 2 .g, 3, 0⟩, ⟨49, 45, .ep 1 .g, 4, 0⟩,
   ⟨50, 50, .ep 3 .b, 0, 0⟩, ⟨54, 51, .ep 3 .g, 3, 0⟩, ⟨59, 55, .ep 1 .b, 4, 0⟩, ⟨60, 60, .ep 3 .b, 1, 1⟩, ⟨64, 61, .ep 2 .b, 3, 0⟩,
   ⟨69, 65, .ep 2 .r, 4, 0⟩, ⟨70, 70, .ep 3 .b, 2, 2⟩, ⟨75, 71, .ep 3 .r, 4, 0⟩, ⟨76, 76, .ep 3 .b, 3, 3⟩, ⟨81, 77, .part, 4, 0⟩]

/-- Header layout of mode m6, mode field `10010` (46_bc6h R254). -/
def bc6hCells6 : List Cell :=
  [⟨12, 5, .ep 0 .r, 7, 0⟩, ⟨13, 13, .ep 3 .g, 4, 4⟩, ⟨14, 14, .ep 2 .b, 4, 4⟩, ⟨22, 15, .ep 0 .g, 7, 0⟩, ⟨23, 23, .ep 3 .b, 2, 2⟩,
   ⟨24, 24, .ep 2 .g, 4, 4⟩, ⟨32, 25, .ep 0 .b, 7, 0⟩, ⟨33, 33, .ep 3 .b, 3, 3⟩, ⟨34, 34, .ep 3 .b, 4, 4⟩, ⟨40, 35, .ep 1 .r, 5, 0⟩,
   ⟨44, 41, .ep 2 .g, 3, 0⟩, ⟨49, 45, .ep 1 .g, 4, 0⟩, ⟨50, 50, .ep 3 .b, 0, 0⟩, ⟨54, 51, .ep 3 .g, 3, 0⟩, ⟨59, 55, .ep 1 .b, 4, 0⟩,
   ⟨60, 60, .ep 3 .b, 1, 1⟩, ⟨64, 61, .ep 2 .b, 3, 0⟩, ⟨70, 65, .ep 2 .r, 5, 0⟩, ⟨76, 71, .ep 3 .r, 5, 0⟩, ⟨81, 77, .part, 4, 0⟩]

/-- Header layout of mode m7, mode field `10110` (46_bc6h R254). -/
def bc6hCells7 : List Cell :=
  [⟨12, 5, .ep 0 .r, 7, 0⟩, ⟨13, 13, .ep 3 .b, 0, 0⟩, ⟨14, 14, .ep 2 .b, 4, 4⟩, ⟨22, 15, .ep 0 .g, 7, 0⟩, ⟨23, 23, .ep 2 .g, 5, 5⟩,
   ⟨24, 24, .ep 2 .g, 4, 4⟩, ⟨32, 25, .ep 0 .b, 7, 0⟩, ⟨33, 33, .ep 3 .g, 5, 5⟩, ⟨34, 34, .ep 3 .b, 4, 4⟩, ⟨39, 35, .ep 1 .r, 4, 0⟩,
   ⟨40, 40, .ep 3 .g, 4, 4⟩, ⟨44, 41, .ep 2 .g, 3, 0⟩, ⟨50, 45, .ep 1 .g, 5, 0⟩, ⟨54, 51, .ep 3 .g, 3, 0⟩, ⟨59, 55, .ep 1 .b, 4, 0⟩,
   ⟨60, 60, .ep 3 .b, 1, 1⟩, ⟨64, 61, .ep 2 .b, 3, 0⟩, ⟨69, 65, .ep 2 .r, 4, 0⟩, ⟨70, 70, .ep 3 .b, 2, 2⟩, ⟨75, 71, .ep 3 .r, 4, 0⟩,
   ⟨76, 76, .ep 3 .b, 3, 3⟩, ⟨81, 77, .part, 4, 0⟩]

/-- Header layout of mode m8, mode field `11010` (46_bc6h R254). -/
def bc6hCells8 : List Cell :=
  [⟨12, 5, .ep 0 .r, 7, 0⟩, ⟨13, 13, .ep 3 .b, 1, 1⟩, ⟨14, 14, .ep 2 .b, 4, 4⟩, ⟨22, 15, .ep 0 .g, 7, 0⟩, ⟨23, 23, .ep 2 .b, 5, 5⟩,
   ⟨24, 24, .ep 2 .g, 4, 4⟩, ⟨32, 25, .ep 0 .b, 7, 0⟩, ⟨33, 33, .ep 3 .b, 5, 5⟩, ⟨34, 34, .ep 3 .b, 4, 4⟩, ⟨39, 35, .ep 1 .r, 4, 0⟩,
   ⟨40, 40, .ep 3 .g, 4, 4⟩, ⟨44, 41, .ep 2 .g, 3, 0⟩, ⟨49, 45, .ep 1 .g, 4, 0⟩, ⟨50, 50, .ep 3 .b, 0, 0⟩, ⟨54, 51, .ep 3 .g, 3, 0⟩,
   ⟨60, 55, .ep 1 .b, 5, 0⟩, ⟨64, 61, .ep 2 .b, 3, 0⟩, ⟨69, 65, .ep 2 .r, 4, 0⟩, ⟨70, 70, .ep 3 .b, 2, 2⟩, ⟨75, 71, .ep 3 .r, 4, 0⟩,
   ⟨76, 76, .ep 3 .b, 3, 3⟩, ⟨81, 77, .part, 4, 0⟩]

/-- Header layout of mode m9, mode field `11110` (46_bc6h R254). -/
def bc6hCells9 : List Cell :=
  [⟨10, 5, .ep 0 .r, 5, 0⟩, ⟨11, 11, .ep 3 .g, 4, 4⟩, ⟨12, 12, .ep 3 .b, 0, 0⟩, ⟨13, 13, .ep 3 .b, 1, 1⟩, ⟨14, 14, .ep 2 .b, 4, 4⟩,
   ⟨20, 15, .ep 0 .g, 5, 0⟩, ⟨21, 21, .ep 2 .g, 5, 5⟩, ⟨22, 22, .ep 2 .b, 5, 5⟩, ⟨23, 23, .ep 3 .b, 2, 2⟩, ⟨24, 24, .ep 2 .g, 4, 4⟩,
   ⟨30, 25, .ep 0 .b, 5, 0⟩, ⟨31, 31, .ep 3 .g, 5, 5⟩, ⟨32, 32, .ep 3 .b, 3, 3⟩, ⟨33, 33, .ep 3 .b, 5, 5⟩, ⟨34, 34, .ep 3 .b, 4, 4⟩,
   ⟨40, 35, .ep 1 .r, 5, 0⟩, ⟨44, 41, .ep 2 .g, 3, 0⟩, ⟨50, 45, .ep 1 .g, 5, 0⟩, ⟨54, 51, .ep 3 .g, 3, 0⟩, ⟨60, 55, .ep 1 .b, 5, 0⟩,
   ⟨64, 61, .ep 2 .b, 3, 0⟩, ⟨70, 65, .ep 2 .r, 5, 0⟩, ⟨76, 71, .ep 3 .r, 5, 0⟩, ⟨81, 77, .part, 4, 0⟩]

/-- Header layout of mode m10, mode field `00011` (46_bc6h R254). -/
def bc6hCells10 : List Cell :=
  [⟨14, 5, .ep 0 .r, 9, 0⟩, ⟨24, 15, .ep 0 .g, 9, 0⟩, ⟨34, 25, .ep 0 .b, 9, 0⟩, ⟨44, 35, .ep 1 .r, 9, 0⟩, ⟨54, 45, .ep 1 .g, 9, 0⟩,
   ⟨64, 55, .ep 1 .b, 9, 0⟩]

/-- Header layout of mode m11, mode field `00111` (46_bc6h R254). -/
def bc6hCells11 : List Cell :=
  [⟨14, 5, .ep 0 .r, 9, 0⟩, ⟨24, 15, .ep 0 .g, 9, 0⟩, ⟨34, 25, .ep 0 .b, 9, 0⟩, ⟨43, 35, .ep 1 .r, 8, 0⟩, ⟨44, 44, .ep 0 .r, 10, 10⟩,
   ⟨53, 45, .ep 1 .g, 8, 0⟩, ⟨54, 54, .ep 0 .g, 10, 10⟩, ⟨63, 55, .ep 1 .b, 8, 0⟩, ⟨64, 64, .ep 0 .b, 10, 10⟩]

/-- Header layout of mode m12, mode field `01011` (46_bc6h R254). -/
def bc6hCells12 : List Cell :=
  [⟨14, 5, .ep 0 .r, 9, 0⟩, ⟨24, 15, .ep 0 .g, 9, 0⟩, ⟨34, 25, .ep 0 .b, 9, 0⟩, ⟨42, 35, .ep 1 .r, 7, 0⟩, ⟨44, 43, .ep 0 .r, 10, 11⟩,
   ⟨52, 45, .ep 1 .g, 7, 0⟩, ⟨54, 53, .ep 0 .g, 10, 11⟩, ⟨62, 55, .ep 1 .b, 7, 0⟩, ⟨64, 63, .ep 0 .b, 10, 11⟩]

/-- Header layout of mode m13, mode field `01111` (46_bc6h R254). -/
def bc6hCells13 : List Cell :=
  [⟨14, 5, .ep 0 .r, 9, 0⟩, ⟨24, 15, .ep 0 .g, 9, 0⟩, ⟨34, 25, .ep 0 .b, 9, 0⟩, ⟨38, 35, .ep 1 .r, 3, 0⟩, ⟨44, 39, .ep 0 .r, 10, 15⟩,
   ⟨48, 45, .ep 1 .g, 3, 0⟩, ⟨54, 49, .ep 0 .g, 10, 15⟩, ⟨58, 55, .ep 1 .b, 3, 0⟩, ⟨64, 59, .ep 0 .b, 10, 15⟩]

/-- The 14 modes m0 to m13 (46_bc6h R250, R251, R254). -/
def bc6hModes : Vector Bc6hMode 14 :=
  #v[⟨2, 0b00, 10, 5, 5, 5, 2, true, 3, bc6hCells0⟩,
    ⟨2, 0b01, 7, 6, 6, 6, 2, true, 3, bc6hCells1⟩,
    ⟨5, 0b00010, 11, 5, 4, 4, 2, true, 3, bc6hCells2⟩,
    ⟨5, 0b00110, 11, 4, 5, 4, 2, true, 3, bc6hCells3⟩,
    ⟨5, 0b01010, 11, 4, 4, 5, 2, true, 3, bc6hCells4⟩,
    ⟨5, 0b01110, 9, 5, 5, 5, 2, true, 3, bc6hCells5⟩,
    ⟨5, 0b10010, 8, 6, 5, 5, 2, true, 3, bc6hCells6⟩,
    ⟨5, 0b10110, 8, 5, 6, 5, 2, true, 3, bc6hCells7⟩,
    ⟨5, 0b11010, 8, 5, 5, 6, 2, true, 3, bc6hCells8⟩,
    ⟨5, 0b11110, 6, 6, 6, 6, 2, false, 3, bc6hCells9⟩,
    ⟨5, 0b00011, 10, 10, 10, 10, 1, false, 4, bc6hCells10⟩,
    ⟨5, 0b00111, 11, 9, 9, 9, 1, true, 4, bc6hCells11⟩,
    ⟨5, 0b01011, 12, 8, 8, 8, 1, true, 4, bc6hCells12⟩,
    ⟨5, 0b01111, 16, 4, 4, 4, 1, true, 4, bc6hCells13⟩]

/-- The eight modes (47_bc7 R292). -/
def bc7Modes : Vector Bc7Mode 8 :=
  #v[⟨3, 4, 0, 0, 4, 0, .perEndpoint, 3, 0⟩,
    ⟨2, 6, 0, 0, 6, 0, .perSubset, 3, 0⟩,
    ⟨3, 6, 0, 0, 5, 0, .none, 2, 0⟩,
    ⟨2, 6, 0, 0, 7, 0, .perEndpoint, 2, 0⟩,
    ⟨1, 0, 2, 1, 5, 6, .none, 2, 3⟩,
    ⟨1, 0, 2, 0, 7, 8, .none, 2, 2⟩,
    ⟨1, 0, 0, 0, 7, 7, .perEndpoint, 4, 0⟩,
    ⟨2, 6, 0, 0, 5, 5, .perEndpoint, 2, 0⟩]

/-- The tables with the values the spec prints (92_eei_decisions D26). -/
def Tables.printed : Tables where
  etcMod := tabEtcMod
  etcDist := tabEtcDist
  eacMod := tabEacMod
  p2 := tabP2
  p3 := tabP3
  w2 := tabW2
  w3 := tabW3
  w4 := tabW4
  bc6hModes := Config.bc6hModes
  bc7Modes := Config.bc7Modes

/-- The defaults the spec states (00_scope R7): `P_SNORM_CLAMP` true, `P_ETC1_OVF` `draw`, the printed tables. -/
def Params.default : Params := ⟨true, .draw, Tables.printed⟩

end Sys2Proof.Config
end

