-- ==== Sys2Proof/Machine/State.lean ====
section
/-! DEFINITION. The state of one BDU (10_state R20), the parameters it was built with, and the requester's list of
actions; faults, refusals, the state after reset. -/

namespace Sys2Proof

namespace Machine

/-- The complete architectural state of one BDU (10_state R20), and below it the model's own fields. -/
structure State where
  /-- `FMT`, the format code of the current request (10_state R21) -/
  fmt : FmtCode
  /-- `BLK[0..15]`, the request's bytes (10_state R22) -/
  blk : Block
  /-- `PX[0..15].c[0..3]`, the decoded block (10_state R26) -/
  px : Pixels
  /-- `STATUS.VALID` (10_state R25) -/
  valid : Bool
  /-- `STATUS.ERR`, sticky (10_state R25) -/
  err : Bool
  /-- model's own: the implementation parameters, the literal tables among them (00_scope R7); no step writes them (log entry 5;
  70_reset_and_hazards R382) -/
  params : Config.Params
  /-- model's own: how often `PX` has lost its value to an `IllegalFormat`; selects the free values (log entry 3) -/
  lost : Nat
  /-- model's own: the requester's actions still to come (10_state R24, 70_reset_and_hazards R388; log entry 6) -/
  todo : List Action
  /-- model's own: what the requester's reads returned, latest first (log entry 7) -/
  reads : List Reading
deriving DecidableEq, Repr

/-- Why a step stops. -/
inductive Fault where
  /-- Raised by `READ PX[p]` while `STATUS.VALID = 0`: a requester fault, "the lanes hold no value"
  (60_exceptions R353 (c), 10_state R30). Safe: the spec asks that the read return no value. -/
  | readInvalidPx
  /-- Raised by a BC6H or BC7 request if an extraction left the 128-bit block (60_exceptions R354, 40_bitfield_extractor
  R105). Safe: the spec says it cannot arise, and the primitive refuses rather than return a number. With the printed tables no
  block raises it; tables a model is given instead could name a bit outside the block (log entry 12). -/
  | extractorRange
deriving DecidableEq, Repr

/-- Why the model gives an instruction no meaning. -/
inductive Refusal where
  /-- Raised by an arm of `exec` that has no meaning yet. Safe: the machine stops. No arm answers it. -/
  | notModelled (mnemonic : String)
deriving DecidableEq, Repr

/-- The four lanes of a pixel that holds nothing but zeros. -/
def zeroPixel : Pixel := ⟨0, 0, 0, 0⟩

/-- The machine right after reset (10_state R31, 70_reset_and_hazards R380): `VALID` and `ERR` are 0. The spec gives
`FMT`, `BLK` and `PX` no value: DESIGN CHOICE zero (log entries 1 and 2). The parameters are the spec's defaults. -/
def State.reset : State where
  fmt := 0
  blk := Vector.replicate 16 0
  px := Vector.replicate 16 zeroPixel
  valid := false
  err := false
  params := Config.Params.default
  lost := 0
  todo := []
  reads := []

end Machine

end Sys2Proof
end

