-- ==== Sys2Proof/Machine/Flags.lean ====
section
/-! DEFINITION. The status bits. There are no arithmetic flags (10_state R25); the only status is `STATUS.VALID` and
`STATUS.ERR`, and these are the three ways they are written. -/

namespace Sys2Proof.Machine

/-- A legal `Decode` step sets `VALID` and leaves `ERR` (10_state R25). -/
def State.statusDecoded (s : State) : State := { s with valid := true }

/-- An illegal `Decode` step clears `VALID` and sets the sticky `ERR` (10_state R25, 60_exceptions R351). -/
def State.statusIllegal (s : State) : State := { s with valid := false, err := true }

/-- `RESET` clears both (70_reset_and_hazards R380). -/
def State.statusReset (s : State) : State := { s with valid := false, err := false }

end Sys2Proof.Machine
end

