-- ==== Sys2Proof/Machine/Ops.lean ====
section
/-! DEFINITION. The named operations over the registers: latching a request, delivering a response, taking the one
exception, `RESET`, and the two reads. The BDU has no memory port (20_memory R40), so there is no memory operation. -/

namespace Sys2Proof.Machine

/-- Every `Decode` step first writes `FMT` and `BLK[0..15]` (10_state R27). -/
def State.latch (s : State) (fmt : FmtCode) (d : Block) : State := { s with fmt := fmt, blk := d }

/-- A legal step writes all 64 lanes and sets `VALID` (10_state R27). -/
def State.deliver (s : State) (px : Pixels) : State := { s with px := px }.statusDecoded

/-- What `PX` holds after the `n`-th `IllegalFormat`: nothing any rule fixes (60_exceptions R351; log entry 3). -/
def lostPixels (n : Nat) : Pixels :=
  Vector.ofFn fun p => ⟨Config.lostLane n p 0, Config.lostLane n p 1, Config.lostLane n p 2, Config.lostLane n p 3⟩

/-- TAKING THE EXCEPTION `IllegalFormat(fmt)` (60_exceptions R351), the whole of the step: `FMT` and `BLK` are written,
`VALID <- 0`, `ERR <- 1`, `PX` holds no value. Nothing is saved, no control transfer happens and there is no return
(R357, R358): the next step is executed normally. -/
def State.raiseIllegalFormat (s : State) (fmt : FmtCode) (d : Block) : State :=
  { (s.latch fmt d).statusIllegal with px := lostPixels s.lost, lost := s.lost + 1 }

/-- The shape of every legal `Decode` step whose decoder is total on the block as it stands (10_state R27). -/
def runDecode (fmt : FmtCode) (d : Block) (decoder : Block → Pixels) (s : State) : Host.Outcome State Fault Refusal :=
  .next ((s.latch fmt d).deliver (decoder (s.latch fmt d).blk))

/-- The same for the BC6H and BC7 decoders, whose extractions range over the 128-bit block at positions read from tables:
if one left the block the step would stop (60_exceptions R354). -/
def runDecodeChecked (fmt : FmtCode) (d : Block) (decoder : Block → Option Pixels) (s : State) :
    Host.Outcome State Fault Refusal :=
  match decoder (s.latch fmt d).blk with
  | some px => .next ((s.latch fmt d).deliver px)
  | none => .fault .extractorRange

/-- The `RESET` event (70_reset_and_hazards R380): the status bits are cleared; `FMT`, `BLK` and `PX`, which the spec leaves
without a value, take those of `State.reset` (log entries 1 and 2). The tables cannot change (R382), nor can the
parameters; the requester's own lists are not the BDU's. -/
def State.resetUnit (s : State) : State :=
  { s.statusReset with fmt := State.reset.fmt, blk := State.reset.blk, px := State.reset.px }

/-- `READ PX[p]`: the four lanes while `VALID = 1`, and no value otherwise (10_state R30, 60_exceptions R353 (c)). -/
def State.readPx (s : State) (p : Fin 16) : Option Pixel := if s.valid then some s.px[p] else none

/-- `READ STATUS`: the two status bits. -/
def State.readStatus (s : State) : Bool × Bool := (s.valid, s.err)

/-- What a read returned goes to the requester; the BDU's registers do not change (20_memory R48). -/
def State.record (s : State) (x : Reading) : State := { s with reads := x :: s.reads }

end Sys2Proof.Machine
end

