-- ==== Sys2Proof/Machine/Bc123.lean ====
section
/-! DEFINITION. The BC1, BC2 and BC3 decoders (43_bc1_bc2_bc3): request codes 11 to 18. -/

namespace Sys2Proof.Machine

/-- `c0` of a colour block (43_bc1_bc2_bc3 R180). -/
def bcEnd0 (k : Word64) : Nat := bits k 0 15

/-- `c1` of a colour block (43_bc1_bc2_bc3 R180). -/
def bcEnd1 (k : Word64) : Nat := bits k 16 31

/-- `idx[q]` of a colour block; the coded pixel `q` is output pixel `q` (43_bc1_bc2_bc3 R180). -/
def bcIndex (k : Word64) (q : Fin 16) : Nat := bits k (32 + 2 * q.val) (33 + 2 * q.val)

/-- `rgb565(c)` with an alpha of 255 (43_bc1_bc2_bc3 R181). -/
def rgb565 (c : Nat) : Rgba := ⟨ext5 (slice c 11 15), ext6 (slice c 5 10), ext5 (slice c 0 4), 255⟩

/-- A value per colour channel from the two endpoints' values, opaque. -/
def blendRgb (f : Nat → Nat → Nat) (a b : Rgba) : Rgba := ⟨f a.r b.r, f a.g b.g, f a.b b.b, 255⟩

/-- The four-colour palette (43_bc1_bc2_bc3 R183; 90_conflicts C8). -/
def palette4 (c0 c1 i : Nat) : Rgba :=
  match i with
  | 0 => rgb565 c0
  | 1 => rgb565 c1
  | 2 => blendRgb (fun a b => (2 * a + b) / 3) (rgb565 c0) (rgb565 c1)
  | _ => blendRgb (fun a b => (a + 2 * b) / 3) (rgb565 c0) (rgb565 c1)

/-- The three-colour palette (43_bc1_bc2_bc3 R184). -/
def palette3 (alphaFmt : Bool) (c0 c1 i : Nat) : Rgba :=
  match i with
  | 0 => rgb565 c0
  | 1 => rgb565 c1
  | 2 => blendRgb (fun a b => (a + b) / 2) (rgb565 c0) (rgb565 c1)
  | _ => ⟨0, 0, 0, if alphaFmt then 0 else 255⟩

/-- The mode test, on the raw 16-bit values (43_bc1_bc2_bc3 R182). -/
def threeColour (k : Word64) (allow3 : Bool) : Bool := allow3 && bcEnd1 k > bcEnd0 k

/-- `Bc1Colour(K, allow3, alphaFmt)` at output pixel `p` (43_bc1_bc2_bc3 R185). -/
def bc1Colour (k : Word64) (allow3 alphaFmt : Bool) (p : Fin 16) : Rgba :=
  if threeColour k allow3 then palette3 alphaFmt (bcEnd0 k) (bcEnd1 k) (bcIndex k p)
  else palette4 (bcEnd0 k) (bcEnd1 k) (bcIndex k p)

/-- `ext4(a4[q])` of a BC2 alpha word (43_bc1_bc2_bc3 R190). -/
def bc2Alpha (l : Word64) (q : Fin 16) : Nat := ext4 (bits l (4 * q.val) (4 * q.val + 3))

/-- `Ramp8(e0, e1)[i]` (43_bc1_bc2_bc3 R193; 90_conflicts C1). -/
def ramp8 (e0 e1 i : Nat) : Nat :=
  if e0 > e1 then
    match i with
    | 0 => e0
    | 1 => e1
    | 2 => (6 * e0 + 1 * e1) / 7
    | 3 => (5 * e0 + 2 * e1) / 7
    | 4 => (4 * e0 + 3 * e1) / 7
    | 5 => (3 * e0 + 4 * e1) / 7
    | 6 => (2 * e0 + 5 * e1) / 7
    | _ => (1 * e0 + 6 * e1) / 7
  else
    match i with
    | 0 => e0
    | 1 => e1
    | 2 => (4 * e0 + 1 * e1) / 5
    | 3 => (3 * e0 + 2 * e1) / 5
    | 4 => (2 * e0 + 3 * e1) / 5
    | 5 => (1 * e0 + 4 * e1) / 5
    | 6 => 0
    | _ => 255

/-- First endpoint byte of a ramp block (30_encoding R77). -/
def rampByte0 (a : Word64) : Nat := bits a 0 7

/-- Second endpoint byte of a ramp block (30_encoding R77). -/
def rampByte1 (a : Word64) : Nat := bits a 8 15

/-- `idx[q]` of a ramp block (30_encoding R77). -/
def rampIndex (a : Word64) (q : Fin 16) : Nat := bits a (16 + 3 * q.val) (18 + 3 * q.val)

/-- BC3 alpha of pixel `q` (43_bc1_bc2_bc3 R194). -/
def bc3Alpha (l : Word64) (q : Fin 16) : Nat := ramp8 (rampByte0 l) (rampByte1 l) (rampIndex l q)

/-- The lanes of the BC1 requests without alpha (43_bc1_bc2_bc3 R186, R187). -/
def bc1RgbPixels (d : Block) : Pixels := pixels fun p => (bc1Colour (lo d) true false p).pixel

/-- The lanes of the BC1 requests with alpha (43_bc1_bc2_bc3 R188, R189). -/
def bc1RgbaPixels (d : Block) : Pixels := pixels fun p => (bc1Colour (lo d) true true p).pixel

/-- The lanes of the BC2 requests (43_bc1_bc2_bc3 R191, R192). -/
def bc2Pixels (d : Block) : Pixels :=
  pixels fun p => { bc1Colour (hi d) false true p with a := bc2Alpha (lo d) p }.pixel

/-- The lanes of the BC3 requests (43_bc1_bc2_bc3 R195, R196). -/
def bc3Pixels (d : Block) : Pixels :=
  pixels fun p => { bc1Colour (hi d) false true p with a := bc3Alpha (lo d) p }.pixel

/-- `DEC.BC1_RGB_UNORM`, code 11 (43_bc1_bc2_bc3 R186). -/
def execBc1RgbUnorm (d : Block) (s : State) : Host.Outcome State Fault Refusal := runDecode 11 d bc1RgbPixels s

/-- `DEC.BC1_RGB_SRGB`, code 12 (43_bc1_bc2_bc3 R187). -/
def execBc1RgbSrgb (d : Block) (s : State) : Host.Outcome State Fault Refusal := runDecode 12 d bc1RgbPixels s

/-- `DEC.BC1_RGBA_UNORM`, code 13 (43_bc1_bc2_bc3 R188). -/
def execBc1RgbaUnorm (d : Block) (s : State) : Host.Outcome State Fault Refusal := runDecode 13 d bc1RgbaPixels s

/-- `DEC.BC1_RGBA_SRGB`, code 14 (43_bc1_bc2_bc3 R189). -/
def execBc1RgbaSrgb (d : Block) (s : State) : Host.Outcome State Fault Refusal := runDecode 14 d bc1RgbaPixels s

/-- `DEC.BC2_UNORM`, code 15 (43_bc1_bc2_bc3 R191). -/
def execBc2Unorm (d : Block) (s : State) : Host.Outcome State Fault Refusal := runDecode 15 d bc2Pixels s

/-- `DEC.BC2_SRGB`, code 16 (43_bc1_bc2_bc3 R192). -/
def execBc2Srgb (d : Block) (s : State) : Host.Outcome State Fault Refusal := runDecode 16 d bc2Pixels s

/-- `DEC.BC3_UNORM`, code 17 (43_bc1_bc2_bc3 R195). -/
def execBc3Unorm (d : Block) (s : State) : Host.Outcome State Fault Refusal := runDecode 17 d bc3Pixels s

/-- `DEC.BC3_SRGB`, code 18 (43_bc1_bc2_bc3 R196). -/
def execBc3Srgb (d : Block) (s : State) : Host.Outcome State Fault Refusal := runDecode 18 d bc3Pixels s

end Sys2Proof.Machine
end

