-- ==== Sys2Proof/Machine/Bc45.lean ====
section
/-! DEFINITION. The BC4 and BC5 decoders on the exact x35 scale (44_bc4_bc5): request codes 19 to 22. -/

namespace Sys2Proof.Machine

/-- `cmp` of a raw endpoint byte: what the mode test compares (44_bc4_bc5 R211). -/
def rampCmp (signed : Bool) (r : Nat) : Int := if signed then sext 8 r else r

/-- `e` of a raw endpoint byte: what the ramp is built from; -128 becomes -127 under `P_SNORM_CLAMP` (44_bc4_bc5 R211). -/
def rampEnd (P : Config.Params) (signed : Bool) (r : Nat) : Int :=
  if signed && P.snormClamp then max (rampCmp signed r) (-127) else rampCmp signed r

/-- `(lo, hi)` of the second ramp shape (44_bc4_bc5 R212). -/
def rampEnds (signed : Bool) : Int × Int := if signed then (-127, 127) else (0, 255)

/-- The ramp entry `i` from the compared values and the endpoints (44_bc4_bc5 R212). -/
def ramp35Entry (signed : Bool) (cmp0 cmp1 e0 e1 : Int) (i : Nat) : Int :=
  if cmp0 > cmp1 then
    match i with
    | 0 => 35 * e0
    | 1 => 35 * e1
    | 2 => 5 * (6 * e0 + 1 * e1)
    | 3 => 5 * (5 * e0 + 2 * e1)
    | 4 => 5 * (4 * e0 + 3 * e1)
    | 5 => 5 * (3 * e0 + 4 * e1)
    | 6 => 5 * (2 * e0 + 5 * e1)
    | _ => 5 * (1 * e0 + 6 * e1)
  else
    match i with
    | 0 => 35 * e0
    | 1 => 35 * e1
    | 2 => 7 * (4 * e0 + 1 * e1)
    | 3 => 7 * (3 * e0 + 2 * e1)
    | 4 => 7 * (2 * e0 + 3 * e1)
    | 5 => 7 * (1 * e0 + 4 * e1)
    | 6 => 35 * (rampEnds signed).1
    | _ => 35 * (rampEnds signed).2

/-- `Ramp35(A, signed)[i]` (44_bc4_bc5 R212). -/
def ramp35 (P : Config.Params) (signed : Bool) (a : Word64) (i : Nat) : Int :=
  ramp35Entry signed (rampCmp signed (rampByte0 a)) (rampCmp signed (rampByte1 a))
    (rampEnd P signed (rampByte0 a)) (rampEnd P signed (rampByte1 a)) i

/-- The value `M` of one channel at pixel `q` (44_bc4_bc5 R213 to R216). -/
def rampValue (P : Config.Params) (signed : Bool) (a : Word64) (q : Fin 16) : Int := ramp35 P signed a (rampIndex a q)

/-- The lanes of a BC4 request (44_bc4_bc5 R213, R214). -/
def bc4Pixels (P : Config.Params) (signed : Bool) (d : Block) : Pixels :=
  pixels fun p => ⟨laneZ (rampValue P signed (lo d) p), 0, 0, 0⟩

/-- The lanes of a BC5 request (44_bc4_bc5 R215, R216). -/
def bc5Pixels (P : Config.Params) (signed : Bool) (d : Block) : Pixels :=
  pixels fun p => ⟨laneZ (rampValue P signed (lo d) p), laneZ (rampValue P signed (hi d) p), 0, 0⟩

/-- `DEC.BC4_UNORM`, code 19 (44_bc4_bc5 R213). -/
def execBc4Unorm (d : Block) (s : State) : Host.Outcome State Fault Refusal := runDecode 19 d (bc4Pixels s.params false) s

/-- `DEC.BC4_SNORM`, code 20 (44_bc4_bc5 R214). -/
def execBc4Snorm (d : Block) (s : State) : Host.Outcome State Fault Refusal := runDecode 20 d (bc4Pixels s.params true) s

/-- `DEC.BC5_UNORM`, code 21 (44_bc4_bc5 R215). -/
def execBc5Unorm (d : Block) (s : State) : Host.Outcome State Fault Refusal := runDecode 21 d (bc5Pixels s.params false) s

/-- `DEC.BC5_SNORM`, code 22 (44_bc4_bc5 R216). -/
def execBc5Snorm (d : Block) (s : State) : Host.Outcome State Fault Refusal := runDecode 22 d (bc5Pixels s.params true) s

end Sys2Proof.Machine
end

