-- ==== Sys2Proof/Machine/Bptc.lean ====
section
/-! DEFINITION. What BC6H and BC7 share (45_shared_tables): partitions, anchors, weights, interpolation, index streams. -/

namespace Sys2Proof.Machine

/-- Row `part` of the two-subset table. -/
def part2 (T : Config.Tables) (part : Nat) : Config.Part2 := T.p2.getD part ⟨0, 0⟩

/-- Row `part` of the three-subset table. -/
def part3 (T : Config.Tables) (part : Nat) : Config.Part3 := T.p3.getD part ⟨0, 0, 0, 0⟩

/-- `subset(ns, part, p)` (45_shared_tables R233). -/
def subset (T : Config.Tables) (ns part p : Nat) : Nat :=
  match ns with
  | 2 => if (part2 T part).mask.testBit p then 1 else 0
  | 3 => if (part3 T part).mask1.testBit p then 1 else if (part3 T part).mask2.testBit p then 2 else 0
  | _ => 0

/-- `isAnchor(ns, part, p)` (45_shared_tables R234). -/
def isAnchor (T : Config.Tables) (ns part p : Nat) : Bool :=
  p = 0 || (ns = 2 && p = (part2 T part).anchor)
    || (ns = 3 && (p = (part3 T part).anchor1 || p = (part3 T part).anchor2))

/-- `W(n, i)` (45_shared_tables R235). -/
def weight (T : Config.Tables) (n i : Nat) : Nat :=
  match n with
  | 2 => T.w2.getD i 0
  | 3 => T.w3.getD i 0
  | _ => T.w4.getD i 0

/-- `interp(a, b, w)` (45_shared_tables R236). -/
def interp (a b : Int) (w : Nat) : Int := shr (a * (64 - w) + b * w + 32) 6

/-- The width of pixel `p`'s index: one bit narrower at an anchor (45_shared_tables R237). -/
def indexWidth (T : Config.Tables) (n ns part p : Nat) : Nat := if isAnchor T ns part p then n - 1 else n

/-- The indices of the pixels listed, read one after the other from block bit `pos` (45_shared_tables R237); with them the
bit after the last one. -/
def readIndices (T : Config.Tables) (b : Word128) (n ns part : Nat) : List Nat → Nat → Option (List Nat × Nat)
  | [], pos => some ([], pos)
  | p :: ps, pos => do
    let i ← bits128 b pos (pos + indexWidth T n ns part p - 1)
    let rest ← readIndices T b n ns part ps (pos + indexWidth T n ns part p)
    some (i :: rest.1, rest.2)

/-- `IndexStream(start, n, ns, part)` (45_shared_tables R237). -/
def indexStream (T : Config.Tables) (b : Word128) (start n ns part : Nat) : Option (List Nat × Nat) :=
  readIndices T b n ns part (List.range 16) start

end Sys2Proof.Machine
end

