-- ==== Sys2Proof/Machine/Bc6h.lean ====
section
/-! DEFINITION. The BC6H decoder (46_bc6h): request codes 23 and 24. -/

namespace Sys2Proof.Machine

/-- Mode selection from `BLK[0]` (46_bc6h R250; 90_conflicts C2): the number of the mode whose mode field the low bits of the
byte are, none for a reserved pattern. -/
def bc6hModeNumber (T : Config.Tables) (b : Nat) : Option Nat :=
  T.bc6hModes.toList.findIdx? fun m => b % 2 ^ m.modeBits = m.modeValue

/-- The mode of a block with its properties and layout (46_bc6h R251, R254). -/
def bc6hMode (T : Config.Tables) (b : Nat) : Option Config.Bc6hMode :=
  (bc6hModeNumber T b).bind fun m => T.bc6hModes[m]?

/-- The bits one cell contributes to its field, shifted to their place; a cell whose field bits descend is read reversed
(46_bc6h R253, 40_bitfield_extractor R103 (2)). -/
def cellValue (b : Word128) (c : Config.Cell) : Option Nat :=
  if c.b ≤ c.a then (bits128 b c.lo c.hi).map (· * 2 ^ c.b) else (bits128 b c.hi c.lo).map (· * 2 ^ c.a)

/-- "The field value is the sum of its pieces, each shifted to its place" (46_bc6h R253). -/
def sumCells (b : Word128) : List Config.Cell → Option Nat
  | [] => some 0
  | c :: cs => do
    let v ← cellValue b c
    let w ← sumCells b cs
    some (v + w)

/-- The raw value of a header field; a field no cell names is 0 (46_bc6h R253, R255). -/
def headerField (b : Word128) (m : Config.Bc6hMode) (f : Config.HeaderField) : Option Nat :=
  sumCells b (m.cells.filter fun c => c.field = f)

/-- `dBits[c]` (46_bc6h R251). -/
def dBits (m : Config.Bc6hMode) : Channel → Nat
  | .r => m.dBitsR
  | .g => m.dBitsG
  | .b => m.dBitsB

/-- `E[0][c]` from the raw field (46_bc6h R256). -/
def bc6hBase (signed : Bool) (m : Config.Bc6hMode) (raw0 : Nat) : Int := if signed then sext m.epBits raw0 else raw0

/-- `E[i][c]`, `i >= 1`, from the raw fields of endpoints 0 and `i` (46_bc6h R257): the delta sum wraps. -/
def bc6hDelta (signed : Bool) (m : Config.Bc6hMode) (c : Channel) (raw0 rawI : Nat) : Int :=
  let t : Int := if m.tr then (bc6hBase signed m raw0 + sext (dBits m c) rawI) % 2 ^ m.epBits else rawI
  if signed then sext m.epBits t.toNat else t

/-- `unqU(x, epBits)` (46_bc6h R258). -/
def unqU (x : Int) (epBits : Nat) : Int :=
  if epBits ≥ 15 then x
  else if x = 0 then 0
  else if x = 2 ^ epBits - 1 then 0xFFFF
  else shr (x * 2 ^ 15 + 0x4000) (epBits - 1)

/-- The magnitude of `unqS` (46_bc6h R259). -/
def unqSMag (a epBits : Nat) : Nat :=
  if a = 0 then 0
  else if a ≥ 2 ^ (epBits - 1) - 1 then 0x7FFF
  else (a * 2 ^ 15 + 0x4000) / 2 ^ (epBits - 1)

/-- `unqS(x, epBits)` (46_bc6h R259). -/
def unqS (x : Int) (epBits : Nat) : Int :=
  if epBits ≥ 16 then x
  else if x < 0 then -(unqSMag x.natAbs epBits : Int) else (unqSMag x.natAbs epBits : Int)

/-- The unquantisation of the format. -/
def unq (signed : Bool) (x : Int) (epBits : Nat) : Int := if signed then unqS x epBits else unqU x epBits

/-- `finU(v)` (46_bc6h R262). -/
def finU (v : Int) : Nat := (shr (v * 31) 6).toNat

/-- `finS(v)` (46_bc6h R263). -/
def finS (v : Int) : Nat :=
  if v < 0 ∧ v.natAbs * 31 / 2 ^ 5 ≠ 0 then 0x8000 + v.natAbs * 31 / 2 ^ 5 else v.natAbs * 31 / 2 ^ 5

/-- The output scaling of the format. -/
def fin (signed : Bool) (v : Int) : Nat := if signed then finS v else finU v

/-- A triple of channel values, signed or not. -/
structure Rgb where
  r : Int
  g : Int
  b : Int
deriving DecidableEq, Repr, Inhabited

/-- `E[i][c]` of a block (46_bc6h R255 to R257). -/
def bc6hEndpoint (signed : Bool) (b : Word128) (m : Config.Bc6hMode) (i : Nat) (c : Channel) : Option Int := do
  let raw0 ← headerField b m (.ep 0 c)
  let rawI ← headerField b m (.ep i c)
  some (if i = 0 then bc6hBase signed m raw0 else bc6hDelta signed m c raw0 rawI)

/-- `U[i]`, the unquantised endpoint `i` (46_bc6h R258, R259). -/
def bc6hUnq (signed : Bool) (b : Word128) (m : Config.Bc6hMode) (i : Nat) : Option Rgb := do
  let r ← bc6hEndpoint signed b m i .r
  let g ← bc6hEndpoint signed b m i .g
  let bl ← bc6hEndpoint signed b m i .b
  some ⟨unq signed r m.epBits, unq signed g m.epBits, unq signed bl m.epBits⟩

/-- One channel of one pixel from its two endpoint values (46_bc6h R261 to R263). -/
def bc6hChannel (signed : Bool) (u0 u1 : Int) (w : Nat) : Lane := laneN (fin signed (interp u0 u1 w))

/-- One pixel from its subset's endpoints (46_bc6h R264). -/
def bc6hPixel (signed : Bool) (u0 u1 : Rgb) (w : Nat) : Pixel :=
  ⟨bc6hChannel signed u0.r u1.r w, bc6hChannel signed u0.g u1.g w, bc6hChannel signed u0.b u1.b w, 0⟩

/-- The index bits start at block bit 82 in two-subset modes and 65 in one-subset modes (46_bc6h R260). -/
def bc6hStreamStart (m : Config.Bc6hMode) : Nat := if m.ns = 2 then 82 else 65

/-- The block of a mode that is not reserved (46_bc6h R264). -/
def bc6hModeDecode (T : Config.Tables) (signed : Bool) (b : Word128) (m : Config.Bc6hMode) : Option Pixels := do
  let us ← (List.range (2 * m.ns)).mapM (bc6hUnq signed b m)
  let part ← headerField b m .part
  let idx ← indexStream T b (bc6hStreamStart m) m.n m.ns part
  some (pixels fun p =>
    bc6hPixel signed (us.getD (2 * subset T m.ns part p.val) default) (us.getD (2 * subset T m.ns part p.val + 1) default)
      (weight T m.n (idx.1.getD p.val 0)))

/-- Sixteen pixels of zeros: black and transparent black (46_bc6h R252, 47_bc7 R291). -/
def blackPixels : Pixels := pixels fun _ => zeroPixel

/-- The lanes of a BC6H request (46_bc6h R252, R264, R265). -/
def bc6hPixels (T : Config.Tables) (signed : Bool) (d : Block) : Option Pixels :=
  match bc6hMode T d[0].toNat with
  | none => some blackPixels
  | some m => bc6hModeDecode T signed (b128 d) m

/-- `DEC.BC6H_UFLOAT`, code 23 (46_bc6h R264). -/
def execBc6hUfloat (d : Block) (s : State) : Host.Outcome State Fault Refusal :=
  runDecodeChecked 23 d (bc6hPixels s.params.tables false) s

/-- `DEC.BC6H_SFLOAT`, code 24 (46_bc6h R265). -/
def execBc6hSfloat (d : Block) (s : State) : Host.Outcome State Fault Refusal :=
  runDecodeChecked 24 d (bc6hPixels s.params.tables true) s

end Sys2Proof.Machine
end

