-- ==== Sys2Proof/Machine/Bc7.lean ====
section
/-! DEFINITION. The BC7 decoder (47_bc7): request codes 25 and 26. -/

namespace Sys2Proof.Machine

/-- Mode selection: the lowest set bit of `BLK[0]`, none if there is none (47_bc7 R290). -/
def bc7ModeNumber (b : Nat) : Option Nat := (List.range 8).find? fun m => b.testBit m

/-- A field of `w` bits at block bit `start`; a field of no bits is 0 (47_bc7 R298). -/
def bc7Field (b : Word128) (start w : Nat) : Option Nat := if w = 0 then some 0 else bits128 b start (start + w - 1)

/-- How many P bits a mode stores (47_bc7 R292). -/
def pCount (c : Config.Bc7Mode) : Nat :=
  match c.p with
  | .none => 0
  | .perEndpoint => 2 * c.ns
  | .perSubset => c.ns

/-- Where the partition number of mode `m` starts (47_bc7 R293). -/
def partAt (m : Nat) : Nat := m + 1

/-- Where the rotation bits start (47_bc7 R293). -/
def rotAt (m : Nat) (c : Config.Bc7Mode) : Nat := partAt m + c.pb

/-- Where the index-selection bit stands (47_bc7 R293). -/
def iselAt (m : Nat) (c : Config.Bc7Mode) : Nat := rotAt m c + c.rot

/-- Where the field of endpoint `e`, channel `k` (0 red, 1 green, 2 blue) starts (47_bc7 R293). -/
def colourAt (m : Nat) (c : Config.Bc7Mode) (k e : Nat) : Nat := iselAt m c + c.isel + (k * (2 * c.ns) + e) * c.cb

/-- Where the alpha field of endpoint `e` starts (47_bc7 R293). -/
def alphaAt (m : Nat) (c : Config.Bc7Mode) (e : Nat) : Nat := colourAt m c 3 0 + e * c.ab

/-- Where P bit `j` stands (47_bc7 R293). -/
def pAt (m : Nat) (c : Config.Bc7Mode) (j : Nat) : Nat := alphaAt m c (2 * c.ns) + j

/-- Where the first index stream starts (47_bc7 R293, R297). -/
def streamAt (m : Nat) (c : Config.Bc7Mode) : Nat := pAt m c (pCount c)

/-- `P[e]`, the P bit that applies to endpoint `e`, if the mode has P bits (47_bc7 R294). -/
def pBit (b : Word128) (m : Nat) (c : Config.Bc7Mode) (e : Nat) : Option Nat :=
  match c.p with
  | .none => some 0
  | .perEndpoint => bc7Field b (pAt m c e) 1
  | .perSubset => bc7Field b (pAt m c (e / 2)) 1

/-- `E[e][c]` from the raw field, its width and the P bit (47_bc7 R295). -/
def bc7Unq (c : Config.Bc7Mode) (w raw p : Nat) : Nat :=
  if w = 0 then 255
  else if c.p = .none then rep8 raw w
  else rep8 (raw * 2 + p) (w + 1)

/-- `E[e]`, all four channels of endpoint `e` (47_bc7 R294, R295). -/
def bc7Endpoint (b : Word128) (m : Nat) (c : Config.Bc7Mode) (e : Nat) : Option Rgba := do
  let r ← bc7Field b (colourAt m c 0 e) c.cb
  let g ← bc7Field b (colourAt m c 1 e) c.cb
  let bl ← bc7Field b (colourAt m c 2 e) c.cb
  let a ← bc7Field b (alphaAt m c e) c.ab
  let p ← pBit b m c e
  some ⟨bc7Unq c c.cb r p, bc7Unq c c.cb g p, bc7Unq c c.cb bl p, bc7Unq c c.ab a p⟩

/-- Which stream drives which channels: colour index, its width, alpha index, its width (47_bc7 R299). -/
def bc7Streams (c : Config.Bc7Mode) (isel i1 i2 : Nat) : Nat × Nat × Nat × Nat :=
  if c.n2 = 0 then (i1, c.n1, i1, c.n1)
  else if isel = 0 then (i1, c.n1, i2, c.n2)
  else (i2, c.n2, i1, c.n1)

/-- `interp` on 8-bit endpoints. -/
def interp8 (a b w : Nat) : Nat := (interp a b w).toNat

/-- Interpolation of one pixel, colour weight `wc` and alpha weight `wa` (47_bc7 R301). -/
def bc7Blend (e0 e1 : Rgba) (wc wa : Nat) : Rgba :=
  ⟨interp8 e0.r e1.r wc, interp8 e0.g e1.g wc, interp8 e0.b e1.b wc, interp8 e0.a e1.a wa⟩

/-- The rotation swap (47_bc7 R302). -/
def rotate (rot : Nat) (v : Rgba) : Rgba :=
  match rot with
  | 1 => ⟨v.a, v.g, v.b, v.r⟩
  | 2 => ⟨v.r, v.a, v.b, v.g⟩
  | 3 => ⟨v.r, v.g, v.a, v.b⟩
  | _ => v

/-- One pixel before rotation, from its subset's endpoints and its two indices (47_bc7 R299, R301). -/
def bc7Value (T : Config.Tables) (c : Config.Bc7Mode) (isel : Nat) (e0 e1 : Rgba) (i1 i2 : Nat) : Rgba :=
  bc7Blend e0 e1 (weight T (bc7Streams c isel i1 i2).2.1 (bc7Streams c isel i1 i2).1)
    (weight T (bc7Streams c isel i1 i2).2.2.2 (bc7Streams c isel i1 i2).2.2.1)

/-- The second index stream; a mode without one has no indices there (47_bc7 R300). -/
def bc7SecondStream (T : Config.Tables) (b : Word128) (c : Config.Bc7Mode) (start : Nat) : Option (List Nat × Nat) :=
  if c.n2 = 0 then some ([], start) else indexStream T b start c.n2 1 0

/-- The block of mode `m` (47_bc7 R303). -/
def bc7ModeDecode (T : Config.Tables) (b : Word128) (m : Nat) (c : Config.Bc7Mode) : Option Pixels := do
  let part ← bc7Field b (partAt m) c.pb
  let rot ← bc7Field b (rotAt m c) c.rot
  let isel ← bc7Field b (iselAt m c) c.isel
  let es ← (List.range (2 * c.ns)).mapM (bc7Endpoint b m c)
  let idx1 ← indexStream T b (streamAt m c) c.n1 c.ns part
  let idx2 ← bc7SecondStream T b c idx1.2
  some (pixels fun p =>
    (rotate rot (bc7Value T c isel (es.getD (2 * subset T c.ns part p.val) ⟨0, 0, 0, 0⟩)
      (es.getD (2 * subset T c.ns part p.val + 1) ⟨0, 0, 0, 0⟩) (idx1.1.getD p.val 0) (idx2.1.getD p.val 0))).pixel)

/-- The lanes of a BC7 request: `Bc7Decode(B128)` (47_bc7 R291, R303, R304). -/
def bc7Pixels (T : Config.Tables) (d : Block) : Option Pixels :=
  match bc7ModeNumber d[0].toNat with
  | none => some blackPixels
  | some m => (T.bc7Modes[m]?).bind (bc7ModeDecode T (b128 d) m)

/-- `DEC.BC7_UNORM`, code 25 (47_bc7 R307). -/
def execBc7Unorm (d : Block) (s : State) : Host.Outcome State Fault Refusal :=
  runDecodeChecked 25 d (bc7Pixels s.params.tables) s

/-- `DEC.BC7_SRGB`, code 26 (47_bc7 R308). -/
def execBc7Srgb (d : Block) (s : State) : Host.Outcome State Fault Refusal :=
  runDecodeChecked 26 d (bc7Pixels s.params.tables) s

end Sys2Proof.Machine
end

