-- ==== Sys2Proof/Machine/Eac.lean ====
section
/-! DEFINITION. The EAC decoders (42_eac): request codes 1 to 4, and the alpha half of codes 9 and 10. -/

namespace Sys2Proof.Machine

/-- `base` of an EAC word (42_eac R160). -/
def eacBase (e : Word64) : Nat := bits e 56 63

/-- `mul` of an EAC word (42_eac R160). -/
def eacMul (e : Word64) : Nat := bits e 52 55

/-- `tab` of an EAC word (42_eac R160). -/
def eacTab (e : Word64) : Nat := bits e 48 51

/-- `idx[q]` of an EAC word (42_eac R162). -/
def eacIndex (e : Word64) (q : Fin 16) : Nat := bits e (45 - 3 * q.val) (47 - 3 * q.val)

/-- `TAB_EAC_MOD[tab][idx[q]]` (42_eac R161). -/
def eacModifier (T : Config.Tables) (e : Word64) (q : Fin 16) : Int :=
  (T.eacMod.getD (eacTab e) (Vector.replicate 8 0)).getD (eacIndex e q) 0

/-- The value of coded pixel `q` in the 8-bit variant (42_eac R163). -/
def eac8Value (T : Config.Tables) (e : Word64) (q : Fin 16) : Nat := clamp8 (eacBase e + eacMul e * eacModifier T e q)

/-- The 11-bit value of coded pixel `q` in the unsigned variant, before widening (42_eac R164). -/
def eac11uValue (T : Config.Tables) (e : Word64) (q : Fin 16) : Int :=
  if eacMul e ≠ 0 then clamp (eacBase e * 8 + 4 + eacMul e * eacModifier T e q * 8) 0 2047
  else clamp (eacBase e * 8 + 4 + eacModifier T e q) 0 2047

/-- The signed base codeword, -128 read as -127 (42_eac R165). -/
def eacSignedBase (e : Word64) : Int := if sext 8 (eacBase e) = -128 then -127 else sext 8 (eacBase e)

/-- The 11-bit value of coded pixel `q` in the signed variant, before widening (42_eac R165). -/
def eac11sValue (T : Config.Tables) (e : Word64) (q : Fin 16) : Int :=
  if eacMul e ≠ 0 then clamp (eacSignedBase e * 8 + eacMul e * eacModifier T e q * 8) (-1023) 1023
  else clamp (eacSignedBase e * 8 + eacModifier T e q) (-1023) 1023

/-- `Eac8(E)` at output pixel `p` (42_eac R163). -/
def eac8 (T : Config.Tables) (e : Word64) (p : Fin 16) : Nat := eac8Value T e (columnMajor p)

/-- `Eac11u(E)` at output pixel `p` (42_eac R164). -/
def eac11u (T : Config.Tables) (e : Word64) (p : Fin 16) : Nat := ext11u (eac11uValue T e (columnMajor p)).toNat

/-- `Eac11s(E)` at output pixel `p` (42_eac R165). -/
def eac11s (T : Config.Tables) (e : Word64) (p : Fin 16) : Int := ext11s (eac11sValue T e (columnMajor p))

/-- The lanes of `DEC.EAC_R11` (42_eac R166). -/
def eacR11Pixels (T : Config.Tables) (d : Block) : Pixels := pixels fun p => ⟨laneN (eac11u T (w0 d) p), 0, 0, 0⟩

/-- The lanes of `DEC.EAC_SIGNED_R11` (42_eac R167). -/
def eacSignedR11Pixels (T : Config.Tables) (d : Block) : Pixels := pixels fun p => ⟨laneZ (eac11s T (w0 d) p), 0, 0, 0⟩

/-- The lanes of `DEC.EAC_RG11` (42_eac R168). -/
def eacRg11Pixels (T : Config.Tables) (d : Block) : Pixels :=
  pixels fun p => ⟨laneN (eac11u T (w0 d) p), laneN (eac11u T (w1 d) p), 0, 0⟩

/-- The lanes of `DEC.EAC_SIGNED_RG11` (42_eac R169). -/
def eacSignedRg11Pixels (T : Config.Tables) (d : Block) : Pixels :=
  pixels fun p => ⟨laneZ (eac11s T (w0 d) p), laneZ (eac11s T (w1 d) p), 0, 0⟩

/-- `DEC.EAC_R11`, code 1 (42_eac R166). -/
def execEacR11 (d : Block) (s : State) : Host.Outcome State Fault Refusal := runDecode 1 d (eacR11Pixels s.params.tables) s

/-- `DEC.EAC_SIGNED_R11`, code 2 (42_eac R167). -/
def execEacSignedR11 (d : Block) (s : State) : Host.Outcome State Fault Refusal :=
  runDecode 2 d (eacSignedR11Pixels s.params.tables) s

/-- `DEC.EAC_RG11`, code 3 (42_eac R168). -/
def execEacRg11 (d : Block) (s : State) : Host.Outcome State Fault Refusal := runDecode 3 d (eacRg11Pixels s.params.tables) s

/-- `DEC.EAC_SIGNED_RG11`, code 4 (42_eac R169). -/
def execEacSignedRg11 (d : Block) (s : State) : Host.Outcome State Fault Refusal :=
  runDecode 4 d (eacSignedRg11Pixels s.params.tables) s

end Sys2Proof.Machine
end

