-- ==== Sys2Proof/Machine/Etc.lean ====
section
/-! DEFINITION. The ETC1 and ETC2 colour decoders (41_etc1_etc2): request codes 0 and 5 to 10. -/

namespace Sys2Proof.Machine

/-- The `kind` argument of `EtcColour` (41_etc1_etc2 R120). -/
inductive EtcKind where
  | etc1
  | etc2
  | punch
deriving DecidableEq, Repr

/-- The mode of a colour word (41_etc1_etc2 R122). -/
inductive EtcMode where
  | ind
  | diff
  | t
  | h
  | planar
deriving DecidableEq, Repr

/-- A triple of channel values with an alpha. -/
def rgba (f : Channel → Nat) (a : Nat) : Rgba := ⟨f .r, f .g, f .b, a⟩

/-- `R5`, `G5`, `B5` (41_etc1_etc2 R121). -/
def etcBase5 (c : Word64) : Channel → Nat
  | .r => bits c 59 63
  | .g => bits c 51 55
  | .b => bits c 43 47

/-- `dR`, `dG`, `dB` (41_etc1_etc2 R121). -/
def etcDelta (c : Word64) : Channel → Int
  | .r => sext 3 (bits c 56 58)
  | .g => sext 3 (bits c 48 50)
  | .b => sext 3 (bits c 40 42)

/-- `sR`, `sG`, `sB` (41_etc1_etc2 R121). -/
def etcSum (c : Word64) (ch : Channel) : Int := etcBase5 c ch + etcDelta c ch

/-- The valid range of a sum, the closed interval 0..31 (41_etc1_etc2 R122). -/
def inRange5 (s : Int) : Bool := 0 ≤ s && s ≤ 31

/-- Mode selection (41_etc1_etc2 R122; 90_conflicts C4): the first test that holds decides. -/
def etcMode (c : Word64) (kind : EtcKind) : EtcMode :=
  if kind = .etc1 then (if bit c 33 = 0 then .ind else .diff)
  else if kind = .etc2 ∧ bit c 33 = 0 then .ind
  else if ¬ inRange5 (etcSum c .r) then .t
  else if ¬ inRange5 (etcSum c .g) then .h
  else if ¬ inRange5 (etcSum c .b) then .planar
  else .diff

/-- The sub-block of output pixel `p` (41_etc1_etc2 R123). -/
def etcSubblock (c : Word64) (p : Fin 16) : Nat :=
  if (bit c 32 = 0 ∧ p.val % 4 ≥ 2) ∨ (bit c 32 = 1 ∧ p.val / 4 ≥ 2) then 1 else 0

/-- The 2-bit index of coded pixel `q` (41_etc1_etc2 R124). -/
def etcIndex (c : Word64) (q : Fin 16) : Nat := 2 * bit c (16 + q.val) + bit c q.val

/-- The table selector of a sub-block, `T1` or `T2` (41_etc1_etc2 R124). -/
def etcTable (c : Word64) (sb : Nat) : Nat := if sb = 0 then bits c 37 39 else bits c 34 36

/-- `TAB_ETC_MOD[t][i]` for the sub-block's table (41_etc1_etc2 R124). -/
def etcModifier (T : Config.Tables) (c : Word64) (sb i : Nat) : Int :=
  (T.etcMod.getD (etcTable c sb) (Vector.replicate 4 0)).getD i 0

/-- Individual-mode base colours (41_etc1_etc2 R125). -/
def etcIndBase (c : Word64) (sb : Nat) : Channel → Nat
  | .r => ext4 (if sb = 0 then bits c 60 63 else bits c 56 59)
  | .g => ext4 (if sb = 0 then bits c 52 55 else bits c 48 51)
  | .b => ext4 (if sb = 0 then bits c 44 47 else bits c 40 43)

/-- The base component of an ETC1 differential sum outside 0..31, under the parameter `P_ETC1_OVF` (41_etc1_etc2 R127;
log entries 4 and 18). -/
def etcOverflowBase (P : Config.Params) (c : Word64) (ch : Channel) : Nat :=
  match P.etc1Ovf with
  | .draw => (Config.draw8 c ch).toNat
  | .wrap8 => ((etcSum c ch % 256).toNat * 8 + (etcSum c ch % 256).toNat / 4) % 256
  | .wrap5 => ext5 (etcSum c ch % 32).toNat

/-- Differential-mode base colours (41_etc1_etc2 R126), and R127 where a sum is out of range. -/
def etcDiffBase (P : Config.Params) (c : Word64) (sb : Nat) (ch : Channel) : Nat :=
  if sb = 0 then ext5 (etcBase5 c ch)
  else if inRange5 (etcSum c ch) then ext5 (etcSum c ch).toNat
  else etcOverflowBase P c ch

/-- The base colour of a sub-block in `IND` and `DIFF` mode. -/
def etcBase (P : Config.Params) (c : Word64) (mode : EtcMode) (sb : Nat) (ch : Channel) : Nat :=
  if mode = .ind then etcIndBase c sb ch else etcDiffBase P c sb ch

/-- `TAB_ETC_DIST[i]` (41_etc1_etc2 R129). -/
def etcDist (T : Config.Tables) (i : Nat) : Int := T.etcDist.getD i 0

/-- T mode, first base colour (41_etc1_etc2 R130). -/
def tColour0 (c : Word64) : Channel → Nat
  | .r => ext4 (4 * bits c 59 60 + bits c 56 57)
  | .g => ext4 (bits c 52 55)
  | .b => ext4 (bits c 48 51)

/-- T mode, second base colour (41_etc1_etc2 R130). -/
def tColour1 (c : Word64) : Channel → Nat
  | .r => ext4 (bits c 44 47)
  | .g => ext4 (bits c 40 43)
  | .b => ext4 (bits c 36 39)

/-- T mode, the distance (41_etc1_etc2 R130). -/
def tDist (T : Config.Tables) (c : Word64) : Int := etcDist T (2 * bits c 34 35 + bit c 32)

/-- T mode, `paint[i]` (41_etc1_etc2 R130). -/
def tPaint (T : Config.Tables) (c : Word64) (i : Nat) (ch : Channel) : Nat :=
  match i with
  | 0 => tColour0 c ch
  | 1 => clamp8 (tColour1 c ch + tDist T c)
  | 2 => tColour1 c ch
  | _ => clamp8 (tColour1 c ch - tDist T c)

/-- H mode, first base colour (41_etc1_etc2 R131). -/
def hColour0 (c : Word64) : Channel → Nat
  | .r => ext4 (bits c 59 62)
  | .g => ext4 (2 * bits c 56 58 + bit c 52)
  | .b => ext4 (8 * bit c 51 + bits c 47 49)

/-- H mode, second base colour (41_etc1_etc2 R131). -/
def hColour1 (c : Word64) : Channel → Nat
  | .r => ext4 (bits c 43 46)
  | .g => ext4 (bits c 39 42)
  | .b => ext4 (bits c 35 38)

/-- The 24-bit value of a widened colour (41_etc1_etc2 R131). -/
def value24 (f : Channel → Nat) : Nat := 65536 * f .r + 256 * f .g + f .b

/-- H mode, the distance; its index's low bit is 1 when `v0 >= v1` (41_etc1_etc2 R131). -/
def hDist (T : Config.Tables) (c : Word64) : Int :=
  etcDist T (4 * bit c 34 + 2 * bit c 32 + if value24 (hColour0 c) ≥ value24 (hColour1 c) then 1 else 0)

/-- H mode, `paint[i]` (41_etc1_etc2 R131). -/
def hPaint (T : Config.Tables) (c : Word64) (i : Nat) (ch : Channel) : Nat :=
  match i with
  | 0 => clamp8 (hColour0 c ch + hDist T c)
  | 1 => clamp8 (hColour0 c ch - hDist T c)
  | 2 => clamp8 (hColour1 c ch + hDist T c)
  | _ => clamp8 (hColour1 c ch - hDist T c)

/-- Planar mode, the colour `O` at pixel (0,0) (41_etc1_etc2 R133). -/
def planarO (c : Word64) : Channel → Nat
  | .r => ext6 (bits c 57 62)
  | .g => ext7 (64 * bit c 56 + bits c 49 54)
  | .b => ext6 (32 * bit c 48 + 8 * bits c 43 44 + bits c 39 41)

/-- Planar mode, the colour `H` one block-width to the right (41_etc1_etc2 R133). -/
def planarH (c : Word64) : Channel → Nat
  | .r => ext6 (2 * bits c 34 38 + bit c 32)
  | .g => ext7 (bits c 25 31)
  | .b => ext6 (bits c 19 24)

/-- Planar mode, the colour `V` one block-height down (41_etc1_etc2 R133). -/
def planarV (c : Word64) : Channel → Nat
  | .r => ext6 (bits c 13 18)
  | .g => ext7 (bits c 6 12)
  | .b => ext6 (bits c 0 5)

/-- Planar mode, channel `ch` at output pixel `p` (41_etc1_etc2 R133). -/
def planar (c : Word64) (p : Fin 16) (ch : Channel) : Nat :=
  clamp8 (shr ((p.val % 4 : Nat) * ((planarH c ch : Int) - planarO c ch)
    + (p.val / 4 : Nat) * ((planarV c ch : Int) - planarO c ch) + 4 * planarO c ch + 2) 2)

/-- The index at which a punch-through block with a clear opaque bit is transparent, and the index whose modifier it drops
(41_etc1_etc2 R134). -/
def punchAt (c : Word64) (kind : EtcKind) (i k : Nat) : Bool := kind = .punch && bit c 33 = 0 && i = k

/-- `IND` and `DIFF` pixels (41_etc1_etc2 R128, R134): base plus modifier, each channel clamped. -/
def etcPixel (P : Config.Params) (c : Word64) (kind : EtcKind) (mode : EtcMode) (sb i : Nat) (ch : Channel) : Nat :=
  clamp8 (etcBase P c mode sb ch + if punchAt c kind i 0 then 0 else etcModifier P.tables c sb i)

/-- `EtcColour(C, kind)` at output pixel `p` (41_etc1_etc2 R120, R128, R132 to R134). The alpha is meaningful for the
punch-through kind only. -/
def etcColour (P : Config.Params) (c : Word64) (kind : EtcKind) (p : Fin 16) : Rgba :=
  match etcMode c kind with
  | .planar => rgba (planar c p) 255
  | .t => if punchAt c kind (etcIndex c (columnMajor p)) 2 then ⟨0, 0, 0, 0⟩
      else rgba (tPaint P.tables c (etcIndex c (columnMajor p))) 255
  | .h => if punchAt c kind (etcIndex c (columnMajor p)) 2 then ⟨0, 0, 0, 0⟩
      else rgba (hPaint P.tables c (etcIndex c (columnMajor p))) 255
  | mode => if punchAt c kind (etcIndex c (columnMajor p)) 2 then ⟨0, 0, 0, 0⟩
      else rgba (etcPixel P c kind mode (etcSubblock c p) (etcIndex c (columnMajor p))) 255

/-- The lanes of `DEC.ETC1_RGB8` (41_etc1_etc2 R135). -/
def etc1Rgb8Pixels (P : Config.Params) (d : Block) : Pixels := pixels fun p => (etcColour P (w0 d) .etc1 p).pixelRgb

/-- The lanes of `DEC.ETC2_RGB8` and `DEC.ETC2_SRGB8` (41_etc1_etc2 R136, R137). -/
def etc2Rgb8Pixels (P : Config.Params) (d : Block) : Pixels := pixels fun p => (etcColour P (w0 d) .etc2 p).pixelRgb

/-- The lanes of `DEC.ETC2_RGB8_PTA1` and `DEC.ETC2_SRGB8_PTA1` (41_etc1_etc2 R138, R139). -/
def etc2Pta1Pixels (P : Config.Params) (d : Block) : Pixels := pixels fun p => (etcColour P (w0 d) .punch p).pixel

/-- The lanes of `DEC.ETC2_EAC_RGBA8` and `DEC.ETC2_EAC_SRGB8_A8` (41_etc1_etc2 R140, R141). -/
def etc2EacPixels (P : Config.Params) (d : Block) : Pixels :=
  pixels fun p => { etcColour P (w1 d) .etc2 p with a := eac8 P.tables (w0 d) p }.pixel

/-- `DEC.ETC1_RGB8`, code 0 (41_etc1_etc2 R135). -/
def execEtc1Rgb8 (d : Block) (s : State) : Host.Outcome State Fault Refusal := runDecode 0 d (etc1Rgb8Pixels s.params) s

/-- `DEC.ETC2_RGB8`, code 5 (41_etc1_etc2 R136). -/
def execEtc2Rgb8 (d : Block) (s : State) : Host.Outcome State Fault Refusal := runDecode 5 d (etc2Rgb8Pixels s.params) s

/-- `DEC.ETC2_SRGB8`, code 6 (41_etc1_etc2 R137). -/
def execEtc2Srgb8 (d : Block) (s : State) : Host.Outcome State Fault Refusal := runDecode 6 d (etc2Rgb8Pixels s.params) s

/-- `DEC.ETC2_RGB8_PTA1`, code 7 (41_etc1_etc2 R138). -/
def execEtc2Rgb8Pta1 (d : Block) (s : State) : Host.Outcome State Fault Refusal :=
  runDecode 7 d (etc2Pta1Pixels s.params) s

/-- `DEC.ETC2_SRGB8_PTA1`, code 8 (41_etc1_etc2 R139). -/
def execEtc2Srgb8Pta1 (d : Block) (s : State) : Host.Outcome State Fault Refusal :=
  runDecode 8 d (etc2Pta1Pixels s.params) s

/-- `DEC.ETC2_EAC_RGBA8`, code 9 (41_etc1_etc2 R140). -/
def execEtc2EacRgba8 (d : Block) (s : State) : Host.Outcome State Fault Refusal :=
  runDecode 9 d (etc2EacPixels s.params) s

/-- `DEC.ETC2_EAC_SRGB8_A8`, code 10 (41_etc1_etc2 R141). -/
def execEtc2EacSrgb8A8 (d : Block) (s : State) : Host.Outcome State Fault Refusal :=
  runDecode 10 d (etc2EacPixels s.params) s

end Sys2Proof.Machine
end

