-- ==== Sys2Proof/Machine/Reserved.lean ====
section
/-! DEFINITION. The five reserved request codes (30_encoding R66): each takes the exception `IllegalFormat`
(60_exceptions R351). -/

namespace Sys2Proof.Machine

/-- Reserved code 27 (30_encoding R66, 60_exceptions R351). -/
def execReserved27 (d : Block) (s : State) : Host.Outcome State Fault Refusal := .next (s.raiseIllegalFormat 27 d)

/-- Reserved code 28 (30_encoding R66, 60_exceptions R351). -/
def execReserved28 (d : Block) (s : State) : Host.Outcome State Fault Refusal := .next (s.raiseIllegalFormat 28 d)

/-- Reserved code 29 (30_encoding R66, 60_exceptions R351). -/
def execReserved29 (d : Block) (s : State) : Host.Outcome State Fault Refusal := .next (s.raiseIllegalFormat 29 d)

/-- Reserved code 30 (30_encoding R66, 60_exceptions R351). -/
def execReserved30 (d : Block) (s : State) : Host.Outcome State Fault Refusal := .next (s.raiseIllegalFormat 30 d)

/-- Reserved code 31 (30_encoding R66, 60_exceptions R351). -/
def execReserved31 (d : Block) (s : State) : Host.Outcome State Fault Refusal := .next (s.raiseIllegalFormat 31 d)

end Sys2Proof.Machine
end

