-- ==== Sys2Proof/Machine/Dispatch.lean ====
section
/-! DEFINITION. Dispatch: one arm per constructor of Instr, each one call of its meaning (30_encoding R62). -/

namespace Sys2Proof.Machine

def exec (i : Instr) (s : State) : Host.Outcome State Fault Refusal :=
  match i with
  | .etc1Rgb8 d => Sys2Proof.Machine.execEtc1Rgb8 d s
  | .eacR11 d => Sys2Proof.Machine.execEacR11 d s
  | .eacSignedR11 d => Sys2Proof.Machine.execEacSignedR11 d s
  | .eacRg11 d => Sys2Proof.Machine.execEacRg11 d s
  | .eacSignedRg11 d => Sys2Proof.Machine.execEacSignedRg11 d s
  | .etc2Rgb8 d => Sys2Proof.Machine.execEtc2Rgb8 d s
  | .etc2Srgb8 d => Sys2Proof.Machine.execEtc2Srgb8 d s
  | .etc2Rgb8Pta1 d => Sys2Proof.Machine.execEtc2Rgb8Pta1 d s
  | .etc2Srgb8Pta1 d => Sys2Proof.Machine.execEtc2Srgb8Pta1 d s
  | .etc2EacRgba8 d => Sys2Proof.Machine.execEtc2EacRgba8 d s
  | .etc2EacSrgb8A8 d => Sys2Proof.Machine.execEtc2EacSrgb8A8 d s
  | .bc1RgbUnorm d => Sys2Proof.Machine.execBc1RgbUnorm d s
  | .bc1RgbSrgb d => Sys2Proof.Machine.execBc1RgbSrgb d s
  | .bc1RgbaUnorm d => Sys2Proof.Machine.execBc1RgbaUnorm d s
  | .bc1RgbaSrgb d => Sys2Proof.Machine.execBc1RgbaSrgb d s
  | .bc2Unorm d => Sys2Proof.Machine.execBc2Unorm d s
  | .bc2Srgb d => Sys2Proof.Machine.execBc2Srgb d s
  | .bc3Unorm d => Sys2Proof.Machine.execBc3Unorm d s
  | .bc3Srgb d => Sys2Proof.Machine.execBc3Srgb d s
  | .bc4Unorm d => Sys2Proof.Machine.execBc4Unorm d s
  | .bc4Snorm d => Sys2Proof.Machine.execBc4Snorm d s
  | .bc5Unorm d => Sys2Proof.Machine.execBc5Unorm d s
  | .bc5Snorm d => Sys2Proof.Machine.execBc5Snorm d s
  | .bc6hUfloat d => Sys2Proof.Machine.execBc6hUfloat d s
  | .bc6hSfloat d => Sys2Proof.Machine.execBc6hSfloat d s
  | .bc7Unorm d => Sys2Proof.Machine.execBc7Unorm d s
  | .bc7Srgb d => Sys2Proof.Machine.execBc7Srgb d s
  | .reserved27 d => Sys2Proof.Machine.execReserved27 d s
  | .reserved28 d => Sys2Proof.Machine.execReserved28 d s
  | .reserved29 d => Sys2Proof.Machine.execReserved29 d s
  | .reserved30 d => Sys2Proof.Machine.execReserved30 d s
  | .reserved31 d => Sys2Proof.Machine.execReserved31 d s

end Sys2Proof.Machine
end

