-- ==== Sys2Proof/Machine/Actions.lean ====
section
/-! DEFINITION. What one requester action does to one BDU (30_encoding R81, 60_exceptions R361, 70_reset_and_hazards R388). -/

namespace Sys2Proof.Machine

/-- One action: a request is decoded and executed, `RESET` is applied, a read is answered to the requester. A read of `PX`
while `VALID = 0` is a requester fault and stops the run (60_exceptions R353 (c)). -/
def perform (a : Action) (s : State) : Host.Outcome State Fault Refusal :=
  match a with
  | .reset => .next s.resetUnit
  | .decode r => exec (decodeRequest r) s
  | .readPx p =>
    match s.readPx p with
    | some v => .next (s.record (.px p v))
    | none => .fault .readInvalidPx
  | .readStatus => .next (s.record (.status s.readStatus.1 s.readStatus.2))

/-- A finite list of actions, stopping at the first fault (70_reset_and_hazards R388: a run "is the finite list of requester
actions of a program"). -/
def performAll : List Action → State → Host.Outcome State Fault Refusal
  | [], s => .next s
  | a :: rest, s =>
    match perform a s with
    | .next t => performAll rest t
    | .fault f => .fault f
    | .refused r => .refused r

/-- The request that a step is to run next, out of its bits numbered as the opcode table numbers them. -/
def tableRequest (nbits w : Nat) : Request := requestOfNat (w % 2 ^ nbits)

end Sys2Proof.Machine
end

