-- ==== Sys2Proof/Machine/Step.lean ====
section
/-! DEFINITION. The step of the machine: the requester's next action, taken to completion. A `Decode` step is atomic and has
no length in time (10_state R27, 70_reset_and_hazards R386). -/

namespace Sys2Proof.Machine

/-- One step: the first action still to come is removed and performed. With none left the run has ended (70_reset_and_hazards
R388) and "an idle BDU simply holds its registers" (60_exceptions R366). -/
def step (s : State) : Host.Outcome State Fault Refusal :=
  match s.todo with
  | [] => .next s
  | a :: rest => perform a { s with todo := rest }

/-- `s` with the request of these bits as the requester's next action. -/
def State.withFetchWord (s : State) (nbits w : Nat) : State :=
  { s with todo := .decode (tableRequest nbits w) :: s.todo }

end Sys2Proof.Machine
end

