-- ==== Sys2Proof/Machine/DecodeFn.lean ====
section
/-! DEFINITION. `DecodeFn(fmt, BLK)`, the pure function of 10_state R27 as the closed match of 30_encoding R62. The
instructions' meanings do not go through it; that they agree with it is a claim about the model. -/

namespace Sys2Proof.Machine

/-- The 16 decoded pixels of a request with a legal code; no pixels for a reserved one (30_encoding R62, R66). -/
def decodeFn (P : Config.Params) (fmt : FmtCode) (d : Block) : Option Pixels :=
  match fmt.toNat with
  | 0 => some (etc1Rgb8Pixels P d)
  | 1 => some (eacR11Pixels P.tables d)
  | 2 => some (eacSignedR11Pixels P.tables d)
  | 3 => some (eacRg11Pixels P.tables d)
  | 4 => some (eacSignedRg11Pixels P.tables d)
  | 5 => some (etc2Rgb8Pixels P d)
  | 6 => some (etc2Rgb8Pixels P d)
  | 7 => some (etc2Pta1Pixels P d)
  | 8 => some (etc2Pta1Pixels P d)
  | 9 => some (etc2EacPixels P d)
  | 10 => some (etc2EacPixels P d)
  | 11 => some (bc1RgbPixels d)
  | 12 => some (bc1RgbPixels d)
  | 13 => some (bc1RgbaPixels d)
  | 14 => some (bc1RgbaPixels d)
  | 15 => some (bc2Pixels d)
  | 16 => some (bc2Pixels d)
  | 17 => some (bc3Pixels d)
  | 18 => some (bc3Pixels d)
  | 19 => some (bc4Pixels P false d)
  | 20 => some (bc4Pixels P true d)
  | 21 => some (bc5Pixels P false d)
  | 22 => some (bc5Pixels P true d)
  | 23 => bc6hPixels P.tables false d
  | 24 => bc6hPixels P.tables true d
  | 25 => bc7Pixels P.tables d
  | 26 => bc7Pixels P.tables d
  | _ => none

end Sys2Proof.Machine
end

