-- ==== Sys2Proof/Machine/Platform.lean ====
section
/-! DEFINITION. Several BDU instances (10_state R32, 60_exceptions R364). The core is one instance; here `N_INSTANCES` of them
stand side by side, each with its own copy of all the state, and the platform picks which one takes its next action. -/

namespace Sys2Proof.Machine

/-- The instances of a platform, numbered from 0; `N_INSTANCES` is the length of the list. -/
structure Platform where
  units : List State
deriving DecidableEq, Repr

/-- `n` instances, each right after reset ("an instance is ready after reset", 60_exceptions R364). -/
def Platform.reset (n : Nat) : Platform := ⟨List.replicate n State.reset⟩

/-- Instance `k` takes its next action; nothing happens to the others. No platform results if there is no such instance or
the step stops. -/
def Platform.act (k : Nat) (pl : Platform) : Option Platform :=
  match pl.units[k]? with
  | none => none
  | some s =>
    match step s with
    | .next t => some ⟨pl.units.set k t⟩
    | .fault _ => none
    | .refused _ => none

/-- The instances take their actions in the order of the list. -/
def Platform.actAll : List Nat → Platform → Option Platform
  | [], pl => some pl
  | k :: ks, pl => (pl.act k).bind (Platform.actAll ks)

end Sys2Proof.Machine
end

