-- ==== Sys2Proof/Machine/Tiler.lean ====
section
/-! DEFINITION. The requester's side: the block tiler (48_tiler_contract). It is not part of the hardware (00_scope R5); it
is the environment "the model must supply". Its memory, the packed source buffer and the destination buffer, is its
argument and its result. -/

namespace Sys2Proof.Machine

/-- Width, height and depth of an image, in pixels (48_tiler_contract R330). -/
structure Extent where
  w : Nat
  h : Nat
  d : Nat
deriving DecidableEq, Repr

/-- The canonical destination pixel of a format (48_tiler_contract R336). -/
inductive Layout where
  /-- three bytes R, G, B; `srgb` is a label only (30_encoding R63) -/
  | rgb8 (srgb : Bool)
  /-- four bytes R, G, B, A -/
  | rgba8 (srgb : Bool)
  /-- one 16-bit channel -/
  | r16 (snorm : Bool)
  /-- two 16-bit channels -/
  | rg16 (snorm : Bool)
  /-- three half-floats -/
  | rgbHalf
  /-- codes 19 and 20 in "this spec's lane format" (20_memory R46): the value `M` as a 16-bit lane -/
  | rampR (snorm : Bool)
  /-- codes 21 and 22 in that format: the values `M` of both channels -/
  | rampRg (snorm : Bool)
  /-- codes 19 to 22 in whatever the requester uses: "not fixed by sub060" -/
  | requesters (fmt : FmtCode)
deriving DecidableEq, Repr

/-- The bytes of one destination pixel. -/
abbrev Texel := List Byte

/-- A destination image: its layout, its extent, and its pixels, x fastest, then y, then z, with no padding
(48_tiler_contract R336). -/
structure Image where
  layout : Layout
  extent : Extent
  texels : List Texel
deriving DecidableEq, Repr

/-- The destination buffer as bytes. -/
def Image.bytes (i : Image) : List Byte := i.texels.flatten

/-- The bytes per pixel of a layout (48_tiler_contract R336); none where the layout is the requester's own. -/
def Layout.texelBytes : Layout → Option Nat
  | .rgb8 _ => some 3
  | .rgba8 _ => some 4
  | .r16 _ => some 2
  | .rg16 _ => some 4
  | .rgbHalf => some 6
  | .rampR _ => some 2
  | .rampRg _ => some 4
  | .requesters _ => none

/-- Every pixel of the buffer has the bytes its layout gives it: the buffer is "already allocated in this exact layout"
(20_memory R42). -/
def Image.texelsFit (i : Image) : Bool := i.texels.all fun t => i.layout.texelBytes.all fun n => t.length = n

/-- The container `CompressedTexture` (48_tiler_contract R340): the source of `fmt`, the extent and the packed bytes. -/
structure Texture where
  fmt : FmtCode
  extent : Extent
  packed : List Byte
deriving DecidableEq, Repr

/-- Why the tiler stops: fatal assertions of the requester, before any `Decode` step (48_tiler_contract R338, 60_exceptions
R353 (a)), or a stop of the BDU itself. -/
inductive TilerFault where
  | format
  | layout
  | extent
  | sourceLength
  | stopped
deriving DecidableEq, Repr

/-- The canonical layouts of a format (48_tiler_contract R336): one, but for codes 19 to 22, where the requester has the choice
between the lane format of 20_memory R46 and its own; none for a code that names no format. -/
def canonicalLayouts (fmt : FmtCode) : List Layout :=
  match fmt.toNat with
  | 0 => [.rgb8 false]
  | 1 => [.r16 false]
  | 2 => [.r16 true]
  | 3 => [.rg16 false]
  | 4 => [.rg16 true]
  | 5 => [.rgb8 false]
  | 6 => [.rgb8 true]
  | 7 => [.rgba8 false]
  | 8 => [.rgba8 true]
  | 9 => [.rgba8 false]
  | 10 => [.rgba8 true]
  | 11 => [.rgba8 false]
  | 12 => [.rgba8 true]
  | 13 => [.rgba8 false]
  | 14 => [.rgba8 true]
  | 15 => [.rgba8 false]
  | 16 => [.rgba8 true]
  | 17 => [.rgba8 false]
  | 18 => [.rgba8 true]
  | 19 => [.rampR false, .requesters 19]
  | 20 => [.rampR true, .requesters 20]
  | 21 => [.rampRg false, .requesters 21]
  | 22 => [.rampRg true, .requesters 22]
  | 23 => [.rgbHalf]
  | 24 => [.rgbHalf]
  | 25 => [.rgba8 false]
  | 26 => [.rgba8 true]
  | _ => []

/-- Bits 7:0 of a lane. -/
def lowByte (l : Lane) : Byte := l.setWidth 8

/-- A 16-bit lane, low byte at the lower address (20_memory R46). -/
def laneBytes (l : Lane) : List Byte := [lowByte l, lowByte (l >>> 8)]

/-- `convert(fmt, PX[p])` into a pixel of the layout, one of the format's canonical ones (48_tiler_contract R336,
20_memory R46). -/
def convert (layout : Layout) (v : Pixel) : Texel :=
  match layout with
  | .rgb8 _ => [lowByte v.c0, lowByte v.c1, lowByte v.c2]
  | .rgba8 _ => [lowByte v.c0, lowByte v.c1, lowByte v.c2, lowByte v.c3]
  | .r16 _ => laneBytes v.c0
  | .rg16 _ => laneBytes v.c0 ++ laneBytes v.c1
  | .rgbHalf => laneBytes v.c0 ++ laneBytes v.c1 ++ laneBytes v.c2
  | .rampR _ => laneBytes v.c0
  | .rampRg _ => laneBytes v.c0 ++ laneBytes v.c1
  | .requesters fmt => Config.rampTexel fmt v

/-- Blocks along x (48_tiler_contract R331). -/
def Extent.nx (e : Extent) : Nat := (e.w + (footprint.1 - 1)) / footprint.1

/-- Blocks along y (48_tiler_contract R331). -/
def Extent.ny (e : Extent) : Nat := (e.h + (footprint.2.1 - 1)) / footprint.2.1

/-- Blocks along z; the footprint is one pixel deep (48_tiler_contract R331). -/
def Extent.nz (e : Extent) : Nat := (e.d + (footprint.2.2 - 1)) / footprint.2.2

/-- The number of pixels of an image. -/
def Extent.pixelCount (e : Extent) : Nat := e.w * e.h * e.d

/-- The position of a block in the grid. -/
structure BlockPos where
  x : Nat
  y : Nat
  z : Nat
deriving DecidableEq, Repr

/-- The blocks in raster order, x fastest, then y, then z (48_tiler_contract R332). -/
def walk (e : Extent) : List BlockPos :=
  (List.range e.nz).flatMap fun z => (List.range e.ny).flatMap fun y => (List.range e.nx).map fun x => ⟨x, y, z⟩

/-- The raster index of a block (48_tiler_contract R330). -/
def blockIndex (e : Extent) (b : BlockPos) : Nat := (b.z * e.ny + b.y) * e.nx + b.x

/-- The request data of block `i`: bytes `i*S` to `i*S + S - 1` of the packed buffer, and for an 8-byte format any bytes above
them (48_tiler_contract R333, R334): `pad` supplies those. -/
def blockData (pad : Nat → Nat → Byte) (t : Texture) (i : Nat) : Block :=
  Vector.ofFn fun k =>
    if k.val < blockBytes t.fmt then t.packed.getD (i * blockBytes t.fmt + k.val) 0 else pad i k.val

/-- The place of pixel (`x`, `y`, `z`) in the destination: x fastest, then y, then z (48_tiler_contract R336). -/
def texelIndex (e : Extent) (x y z : Nat) : Nat := (z * e.h + y) * e.w + x

/-- `dst[x, y, z] <- t` (48_tiler_contract R330). -/
def Image.put (dst : Image) (x y z : Nat) (t : Texel) : Image :=
  { dst with texels := dst.texels.set (texelIndex dst.extent x y z) t }

/-- Copying one pixel of the response into the destination, if it lies inside the image (48_tiler_contract R335). -/
def copyPixel (s : State) (b : BlockPos) (dst : Image) (p : Fin 16) : Except TilerFault Image :=
  if 4 * b.x + p.val % 4 < dst.extent.w ∧ 4 * b.y + p.val / 4 < dst.extent.h then
    match s.readPx p with
    | some v => .ok (dst.put (4 * b.x + p.val % 4) (4 * b.y + p.val / 4) b.z (convert dst.layout v))
    | none => .error .stopped
  else .ok dst

/-- Copying the pixels listed, one after the other. -/
def copyPixels (s : State) (b : BlockPos) : List (Fin 16) → Image → Except TilerFault Image
  | [], dst => .ok dst
  | p :: ps, dst =>
    match copyPixel s b dst p with
    | .ok dst' => copyPixels s b ps dst'
    | .error f => .error f

/-- The one `Decode` step of a block (48_tiler_contract R330). -/
def issueBlock (pad : Nat → Nat → Byte) (t : Texture) (b : BlockPos) (s : State) : Except TilerFault State :=
  match exec (decodeRequest ⟨t.fmt, blockData pad t (blockIndex t.extent b)⟩) s with
  | .next s' => .ok s'
  | .fault _ => .error .stopped
  | .refused _ => .error .stopped

/-- One block of the walk: its `Decode` step, then the copy of its in-range pixels (48_tiler_contract R330). -/
def tileBlock (pad : Nat → Nat → Byte) (t : Texture) (b : BlockPos) (s : State) (dst : Image) :
    Except TilerFault (State × Image) :=
  match issueBlock pad t b s with
  | .ok s' =>
    match copyPixels s' b (List.finRange 16) dst with
    | .ok dst' => .ok (s', dst')
    | .error f => .error f
  | .error f => .error f

/-- The blocks listed, one after the other. -/
def tileBlocks (pad : Nat → Nat → Byte) (t : Texture) : List BlockPos → State → Image → Except TilerFault (State × Image)
  | [], s, dst => .ok (s, dst)
  | b :: bs, s, dst =>
    match tileBlock pad t b s dst with
    | .ok (s', dst') => tileBlocks pad t bs s' dst'
    | .error f => .error f

/-- The source length the format and the extent ask for (48_tiler_contract R337, 20_memory R41). -/
def sourceLength (t : Texture) : Nat := t.extent.nx * t.extent.ny * t.extent.nz * blockBytes t.fmt

/-- `setStorage` "fully reinitializes and resizes the backing buffer" (48_tiler_contract R340): nothing of the old texture stays, and
the buffer has the length that the new format and extent ask for (20_memory R41). The rule says neither what it takes nor what the
buffer holds afterwards. DESIGN CHOICE, log entry 20: it takes the format, the extent and the new byte at each offset. -/
def Texture.setStorage (_ : Texture) (fmt : FmtCode) (extent : Extent) (content : Nat → Byte) : Texture :=
  ⟨fmt, extent, (List.range (sourceLength ⟨fmt, extent, []⟩)).map content⟩

/-- `decompress(dst, format, srcBytes)` (48_tiler_contract R330): the preconditions are asserted before the first `Decode` step
(R338), then the walk. -/
def decompress (pad : Nat → Nat → Byte) (t : Texture) (s : State) (dst : Image) : Except TilerFault (State × Image) :=
  if ¬ legalCode t.fmt then .error .format
  else if dst.layout ∉ canonicalLayouts t.fmt ∨ ¬ dst.texelsFit then .error .layout
  else if dst.extent ≠ t.extent ∨ dst.texels.length ≠ dst.extent.pixelCount then .error .extent
  else if t.packed.length ≠ sourceLength t then .error .sourceLength
  else tileBlocks pad t (walk t.extent) s dst

end Sys2Proof.Machine
end

