-- ==== Sys2Proof/Machine/Team.lean ====
section
/-! DEFINITION. Several BDU instances filling one destination (20_memory R51 (3), 48_tiler_contract R332): each works through the
blocks given to it, "the only shared object is the destination buffer", and their events interleave in any order. -/

namespace Sys2Proof.Machine

/-- One thing a worker does: the `Decode` step of a block, or the copy of one pixel of its response (48_tiler_contract R330). -/
inductive Event where
  | issue (b : BlockPos)
  | copy (b : BlockPos) (p : Fin 16)
deriving DecidableEq, Repr

/-- The events of one block, in the order of 48_tiler_contract R330. -/
def blockEvents (b : BlockPos) : List Event := .issue b :: (List.finRange 16).map (.copy b)

/-- One BDU instance with what its requester still has to do. -/
structure Worker where
  unit : State
  work : List Event
deriving DecidableEq, Repr

/-- The instances and the destination they share. -/
structure Team where
  workers : List Worker
  dst : Image
deriving DecidableEq, Repr

/-- One event of one worker on its own instance and the shared destination. -/
def performEvent (pad : Nat → Nat → Byte) (t : Texture) (e : Event) (s : State) (dst : Image) :
    Except TilerFault (State × Image) :=
  match e with
  | .issue b =>
    match issueBlock pad t b s with
    | .ok s' => .ok (s', dst)
    | .error f => .error f
  | .copy b p =>
    match copyPixel s b dst p with
    | .ok dst' => .ok (s, dst')
    | .error f => .error f

/-- Worker `k` takes its next event; the other instances do not change. No team results if there is no such worker, if it has
no event left, or if the event stops. -/
def Team.act (pad : Nat → Nat → Byte) (t : Texture) (k : Nat) (tm : Team) : Option Team :=
  match tm.workers[k]? with
  | none => none
  | some w =>
    match w.work with
    | [] => none
    | e :: rest =>
      match performEvent pad t e w.unit tm.dst with
      | .ok r => some ⟨tm.workers.set k ⟨r.1, rest⟩, r.2⟩
      | .error _ => none

/-- The workers take their events in the order of the schedule (20_memory R51 (3): "any interleaving"). -/
def Team.actAll (pad : Nat → Nat → Byte) (t : Texture) : List Nat → Team → Option Team
  | [], tm => some tm
  | k :: ks, tm => (tm.act pad t k).bind (Team.actAll pad t ks)

/-- A team before its first event: instance `k` in its own state, with its blocks (48_tiler_contract R332: "several BDU
instances working on different blocks at once"). -/
def Team.start (shares : List (State × List BlockPos)) (dst : Image) : Team :=
  ⟨shares.map fun w => ⟨w.1, w.2.flatMap blockEvents⟩, dst⟩

end Sys2Proof.Machine
end

