-- ==== Sys2Proof/Safety.lean ====
section
/-! DEFINITION. What counts as a good state and a good run, in the terms claims use. -/

namespace Sys2Proof.Safety

open Sys2Proof.Machine

/-- "1 when `PX` holds the result of the last `Decode` step" (10_state R20): while `VALID` is 1, `PX` is `DecodeFn` of `FMT` and
`BLK`. -/
def ResponseHolds (s : State) : Prop := s.valid = true → decodeFn s.params s.fmt s.blk = some s.px

/-- The literal tables have the values the spec prints (00_scope R7, 92_eei_decisions D26). A claim that needs them says so by
this name. -/
def UsesPrintedTables (s : State) : Prop := s.params.tables = Config.Tables.printed

/-- The range of the `M` lanes of BC4 and BC5 (44_bc4_bc5 R210). -/
def rampLaneOk (P : Config.Params) (signed : Bool) (l : Lane) : Prop :=
  if signed then (if P.snormClamp then -4445 else -4480) ≤ l.toInt ∧ l.toInt ≤ 4445 else l.toNat ≤ 8925

/-- The range of a lane that holds an EAC R11 value (40_bitfield_extractor R111, R112). -/
def eacLaneOk (signed : Bool) (l : Lane) : Prop := if signed then -32751 ≤ l.toInt ∧ l.toInt ≤ 32751 else True

/-- The half-float patterns a lane of a BC6H block with first byte `b` can hold (46_bc6h R266 (e)): never a NaN, never minus zero,
and an infinity in the signed format and mode m13 alone. -/
def halfLaneOk (P : Config.Params) (signed : Bool) (b : Byte) (l : Lane) : Prop :=
  l.toNat ≤ 0x7BFF ∨ (signed = true ∧ 0x8001 ≤ l.toNat ∧ l.toNat ≤ 0xFBFF)
    ∨ (signed = true ∧ bc6hModeNumber P.tables b.toNat = some 13 ∧ l.toNat = 0xFC00)

/-- The lanes of one pixel of a block with first byte `b` lie in the ranges that the table of 30_encoding R63 gives the format;
lanes a format does not use are 0 (10_state R26). -/
def PixelOk (P : Config.Params) (fmt : FmtCode) (b : Byte) (v : Pixel) : Prop :=
  match fmt.toNat with
  | 1 => eacLaneOk false v.c0 ∧ v.c1 = 0 ∧ v.c2 = 0 ∧ v.c3 = 0
  | 2 => eacLaneOk true v.c0 ∧ v.c1 = 0 ∧ v.c2 = 0 ∧ v.c3 = 0
  | 3 => eacLaneOk false v.c0 ∧ eacLaneOk false v.c1 ∧ v.c2 = 0 ∧ v.c3 = 0
  | 4 => eacLaneOk true v.c0 ∧ eacLaneOk true v.c1 ∧ v.c2 = 0 ∧ v.c3 = 0
  | 19 => rampLaneOk P false v.c0 ∧ v.c1 = 0 ∧ v.c2 = 0 ∧ v.c3 = 0
  | 20 => rampLaneOk P true v.c0 ∧ v.c1 = 0 ∧ v.c2 = 0 ∧ v.c3 = 0
  | 21 => rampLaneOk P false v.c0 ∧ rampLaneOk P false v.c1 ∧ v.c2 = 0 ∧ v.c3 = 0
  | 22 => rampLaneOk P true v.c0 ∧ rampLaneOk P true v.c1 ∧ v.c2 = 0 ∧ v.c3 = 0
  | 23 => halfLaneOk P false b v.c0 ∧ halfLaneOk P false b v.c1 ∧ halfLaneOk P false b v.c2 ∧ v.c3 = 0
  | 24 => halfLaneOk P true b v.c0 ∧ halfLaneOk P true b v.c1 ∧ halfLaneOk P true b v.c2 ∧ v.c3 = 0
  | 0 => v.c0.toNat ≤ 255 ∧ v.c1.toNat ≤ 255 ∧ v.c2.toNat ≤ 255 ∧ v.c3 = 0
  | 5 => v.c0.toNat ≤ 255 ∧ v.c1.toNat ≤ 255 ∧ v.c2.toNat ≤ 255 ∧ v.c3 = 0
  | 6 => v.c0.toNat ≤ 255 ∧ v.c1.toNat ≤ 255 ∧ v.c2.toNat ≤ 255 ∧ v.c3 = 0
  | _ => v.c0.toNat ≤ 255 ∧ v.c1.toNat ≤ 255 ∧ v.c2.toNat ≤ 255 ∧ v.c3.toNat ≤ 255

/-- Every response in `PX` lies in the ranges of its format. -/
def LanesInRange (s : State) : Prop := s.valid = true → ∀ p : Fin 16, PixelOk s.params s.fmt s.blk[0] s.px[p]

/-- A response belongs to a legal code (10_state R25). -/
def ValidMeansLegal (s : State) : Prop := s.valid = true → legalCode s.fmt = true

/-- No fault recorded (10_state R25). -/
def NoFaultRecorded (s : State) : Prop := s.err = false

/-- The run of a list of actions is good: it ends, with no requester fault, and `ERR` is 0 (70_reset_and_hazards R388). -/
def GoodRun (as : List Action) (s : State) : Prop := ∃ t, performAll as s = .next t ∧ NoFaultRecorded t

/-- An action that is no `Decode` step with a reserved code. -/
def legalAction : Action → Bool
  | .decode r => legalCode r.fmt
  | _ => true

end Sys2Proof.Safety
end

