-- ==== Sys2Proof/Certificates/Slice0/ByteView.lean ====
section
/-! DEFINITION. The vocabulary of the obligations: the rules of the format files once more, read from the bytes of the block
and not from the assembled words the machine reads them from. Nothing of the machine uses this file. -/

namespace Sys2Proof.Claims

open Sys2Proof.Machine Sys2Proof.Safety

/-- The whole effect of a legal `Decode` step whose response is `px` (10_state R27): everything but `FMT`, `BLK`, `PX` and
`VALID` stays, `ERR` and the model's own fields among them. -/
def Delivers (i : Instr) (s : State) (px : Pixels) : Prop :=
  exec i s = .next { s with fmt := i.code, blk := i.block, px := px, valid := true }

/-- A request code the model speaks of completing: a legal one, with the printed tables where the decoder takes positions and
widths from a table, which the BC6H and BC7 decoders do (92_eei_decisions D26). The codes 0 to 22 need no such premise. -/
def Answerable (s : State) (fmt : FmtCode) : Prop := legalCode fmt = true ∧ (22 < fmt.toNat → UsesPrintedTables s)

/-- Byte `i` of a block as a number. -/
def byte (d : Block) (i : Nat) : Nat := if h : i < 16 then d[i].toNat else 0

/-- A byte as two's complement. -/
def signedByte (b : Nat) : Int := if b < 128 then b else b - 256

/-- The six index bytes of a ramp block at byte `o`, lowest first (30_encoding R77). -/
def le48 (d : Block) (o : Nat) : Nat :=
  byte d (o + 2) + 256 * byte d (o + 3) + 256 ^ 2 * byte d (o + 4) + 256 ^ 3 * byte d (o + 5) + 256 ^ 4 * byte d (o + 6)
    + 256 ^ 5 * byte d (o + 7)

/-- The six index bytes of an EAC word at byte `o`, highest first (30_encoding R74). -/
def be48 (d : Block) (o : Nat) : Nat :=
  256 ^ 5 * byte d (o + 2) + 256 ^ 4 * byte d (o + 3) + 256 ^ 3 * byte d (o + 4) + 256 ^ 2 * byte d (o + 5)
    + 256 * byte d (o + 6) + byte d (o + 7)

/-- The coded number of pixel `p` in a column-major format (00_scope R13). -/
def colMajor (p : Fin 16) : Nat := 4 * (p.val % 4) + p.val / 4

/-! Ramps: BC3 alpha, BC4, BC5 -/

/-- The 3-bit index of pixel `p` in the ramp block at byte `o` (43_bc1_bc2_bc3 R194). -/
def rampIdx (d : Block) (o : Nat) (p : Fin 16) : Nat := le48 d o / 8 ^ p.val % 8

/-- BC3 alpha: entries 0 and 1 are the endpoints, the others are weighted sums of them over 7 or 5 (43_bc1_bc2_bc3 R193). -/
def rampAlpha (e0 e1 i : Nat) : Nat :=
  if i = 0 then e0
  else if i = 1 then e1
  else if e0 > e1 then ((8 - i) * e0 + (i - 1) * e1) / 7
  else if i = 6 then 0
  else if i = 7 then 255
  else ((6 - i) * e0 + (i - 1) * e1) / 5

/-- The number a raw endpoint byte is compared as (44_bc4_bc5 R211). -/
def endCmp (signed : Bool) (b : Nat) : Int := if signed then signedByte b else b

/-- The number a raw endpoint byte enters the ramp as (44_bc4_bc5 R211). -/
def endVal (P : Config.Params) (signed : Bool) (b : Nat) : Int :=
  if signed = true ∧ P.snormClamp = true ∧ signedByte b = -128 then -127 else endCmp signed b

/-- `M` of pixel `p` of the ramp block at byte `o` (44_bc4_bc5 R210, R212). -/
def rampM (P : Config.Params) (signed : Bool) (d : Block) (o : Nat) (p : Fin 16) : Int :=
  let i := rampIdx d o p
  let e0 := endVal P signed (byte d o)
  let e1 := endVal P signed (byte d (o + 1))
  if i = 0 then 35 * e0
  else if i = 1 then 35 * e1
  else if endCmp signed (byte d o) > endCmp signed (byte d (o + 1)) then 5 * ((8 - i) * e0 + (i - 1) * e1)
  else if i = 6 then (if signed then 35 * (-127) else 0)
  else if i = 7 then (if signed then 35 * 127 else 35 * 255)
  else 7 * ((6 - i) * e0 + (i - 1) * e1)

/-! BC1 colour -/

/-- Endpoint `j` of the colour block at byte `o`, little-endian (43_bc1_bc2_bc3 R180). -/
def bcEnd (d : Block) (o j : Nat) : Nat := byte d (o + 2 * j) + 256 * byte d (o + 2 * j + 1)

/-- The 2-bit index of pixel `p`: byte `4 + y` holds row `y`, pixel `x` in bits `2x+1:2x` (43_bc1_bc2_bc3 R180). -/
def bcIdx (d : Block) (o : Nat) (p : Fin 16) : Nat := byte d (o + 4 + p.val / 4) / 4 ^ (p.val % 4) % 4

/-- A 565 colour, one channel widened (43_bc1_bc2_bc3 R181). -/
def bc565 (c : Nat) : Channel → Nat
  | .r => ext5 (c / 2048)
  | .g => ext6 (c / 32 % 64)
  | .b => ext5 (c % 32)

/-- One channel of palette entry `i` (43_bc1_bc2_bc3 R183, R184). -/
def bcChannel (three : Bool) (c0 c1 i : Nat) (ch : Channel) : Nat :=
  if i = 0 then bc565 c0 ch
  else if i = 1 then bc565 c1 ch
  else if i = 2 then (if three then (bc565 c0 ch + bc565 c1 ch) / 2 else (2 * bc565 c0 ch + bc565 c1 ch) / 3)
  else if three then 0
  else (bc565 c0 ch + 2 * bc565 c1 ch) / 3

/-- Whether the colour block at byte `o` is in three-colour mode, in a format that has that mode (43_bc1_bc2_bc3 R182). -/
def bcThree (d : Block) (o : Nat) : Bool := bcEnd d o 1 > bcEnd d o 0

/-- A pixel of the colour block at byte `o` with the given alpha. -/
def bcPixel (d : Block) (o : Nat) (three : Bool) (p : Fin 16) (alpha : Nat) : Pixel :=
  ⟨laneN (bcChannel three (bcEnd d o 0) (bcEnd d o 1) (bcIdx d o p) .r),
    laneN (bcChannel three (bcEnd d o 0) (bcEnd d o 1) (bcIdx d o p) .g),
    laneN (bcChannel three (bcEnd d o 0) (bcEnd d o 1) (bcIdx d o p) .b), laneN alpha⟩

/-- The alpha of a BC1 pixel: 0 for index 3 of a three-colour block of a format with alpha, else 255
(43_bc1_bc2_bc3 R184, R188). -/
def bc1Alpha (alphaFmt : Bool) (d : Block) (p : Fin 16) : Nat :=
  if alphaFmt = true ∧ bcThree d 0 = true ∧ bcIdx d 0 p = 3 then 0 else 255

/-- The explicit alpha of a BC2 pixel: a nibble, replicated (43_bc1_bc2_bc3 R190). -/
def bc2AlphaOf (d : Block) (p : Fin 16) : Nat := 17 * (byte d (p.val / 2) / 16 ^ (p.val % 2) % 16)

/-! EAC -/

/-- The 3-bit index of pixel `p` in the EAC word at byte `o` (42_eac R162). -/
def eacIdx (d : Block) (o : Nat) (p : Fin 16) : Nat := be48 d o / 8 ^ (15 - colMajor p) % 8

/-- The modifier of pixel `p` (42_eac R161). -/
def eacMod (T : Config.Tables) (d : Block) (o : Nat) (p : Fin 16) : Int :=
  (T.eacMod.getD (byte d (o + 1) % 16) (Vector.replicate 8 0)).getD (eacIdx d o p) 0

/-- The multiplier (42_eac R160). -/
def eacMulOf (d : Block) (o : Nat) : Nat := byte d (o + 1) / 16

/-- The 8-bit value of pixel `p` (42_eac R163). -/
def eac8Of (T : Config.Tables) (d : Block) (o : Nat) (p : Fin 16) : Nat := clamp8 (byte d o + eacMulOf d o * eacMod T d o p)

/-- What the multiplier makes of the modifier in the 11-bit variants (42_eac R164, R165). -/
def eacOffset (T : Config.Tables) (d : Block) (o : Nat) (p : Fin 16) : Int :=
  if eacMulOf d o = 0 then eacMod T d o p else 8 * eacMulOf d o * eacMod T d o p

/-- The unsigned 11-bit value, widened (42_eac R164). -/
def eac11uOf (T : Config.Tables) (d : Block) (o : Nat) (p : Fin 16) : Nat :=
  ext11u (clamp (8 * byte d o + 4 + eacOffset T d o p) 0 2047).toNat

/-- The signed 11-bit value, widened (42_eac R165). -/
def eac11sOf (T : Config.Tables) (d : Block) (o : Nat) (p : Fin 16) : Int :=
  ext11s (clamp (8 * max (signedByte (byte d o)) (-127) + eacOffset T d o p) (-1023) 1023)

/-! ETC colour -/

/-- The byte that holds a channel's base field (30_encoding R71, R72). -/
def etcByte (d : Block) (o : Nat) : Channel → Nat
  | .r => byte d o
  | .g => byte d (o + 1)
  | .b => byte d (o + 2)

/-- Bit 33 of the colour word: the diff bit, or the opaque bit. -/
def etcDiffBit (d : Block) (o : Nat) : Nat := byte d (o + 3) / 2 % 2

/-- A channel's differential sum (41_etc1_etc2 R121). -/
def etcSumOf (d : Block) (o : Nat) (ch : Channel) : Int :=
  let b := etcByte d o ch
  (b / 8 : Nat) + (if b % 8 < 4 then ((b % 8 : Nat) : Int) else ((b % 8 : Nat) : Int) - 8)

/-- The sum is in the closed interval 0..31 (41_etc1_etc2 R122). -/
def SumOk (d : Block) (o : Nat) (ch : Channel) : Prop := 0 ≤ etcSumOf d o ch ∧ etcSumOf d o ch ≤ 31

/-- The 2-bit index of pixel `p` (41_etc1_etc2 R124). -/
def etcIdx (d : Block) (o : Nat) (p : Fin 16) : Nat :=
  2 * ((256 * byte d (o + 4) + byte d (o + 5)) / 2 ^ colMajor p % 2)
    + (256 * byte d (o + 6) + byte d (o + 7)) / 2 ^ colMajor p % 2

/-- Whether pixel `p` lies in the second sub-block (41_etc1_etc2 R123). -/
def etcSecond (d : Block) (o : Nat) (p : Fin 16) : Bool :=
  if byte d (o + 3) % 2 = 0 then 2 ≤ p.val % 4 else 2 ≤ p.val / 4

/-- The modifier of pixel `p` (41_etc1_etc2 R124). -/
def etcMod (T : Config.Tables) (d : Block) (o : Nat) (p : Fin 16) : Int :=
  (T.etcMod.getD (if etcSecond d o p then byte d (o + 3) / 4 % 8 else byte d (o + 3) / 32) (Vector.replicate 4 0)).getD
    (etcIdx d o p) 0

/-- Individual base colour (41_etc1_etc2 R125). -/
def indBase (d : Block) (o : Nat) (second : Bool) (ch : Channel) : Nat :=
  17 * (if second then etcByte d o ch % 16 else etcByte d o ch / 16)

/-- What a channel's differential sum outside 0..31 gives as the second base component, under each setting of `P_ETC1_OVF`
(41_etc1_etc2 R127; `wrap8` as the formula of the rule has it, log entry 18). -/
def etcOverflow (P : Config.Params) (d : Block) (ch : Channel) : Nat :=
  match P.etc1Ovf with
  | .draw => (Config.draw8 (w0 d) ch).toNat
  | .wrap8 => let t := (etcSumOf d 0 ch % 256).toNat; (8 * t + t / 4) % 256
  | .wrap5 => ext5 (etcSumOf d 0 ch % 32).toNat

/-- Differential base colour (41_etc1_etc2 R126); `ovf` supplies the channel whose sum is out of range (R127). -/
def diffBase (ovf : Channel → Nat) (d : Block) (o : Nat) (second : Bool) (ch : Channel) : Nat :=
  if second then
    if 0 ≤ etcSumOf d o ch ∧ etcSumOf d o ch ≤ 31 then ext5 (etcSumOf d o ch).toNat else ovf ch
  else ext5 (etcByte d o ch / 8)

/-- T-mode base colours (41_etc1_etc2 R130, 30_encoding R73). -/
def tBase (d : Block) (o : Nat) (second : Bool) : Channel → Nat
  | .r => 17 * (if second then byte d (o + 2) / 16 else 4 * (byte d o / 8 % 4) + byte d o % 4)
  | .g => 17 * (if second then byte d (o + 2) % 16 else byte d (o + 1) / 16)
  | .b => 17 * (if second then byte d (o + 3) / 16 else byte d (o + 1) % 16)

/-- T-mode paint colour `i` (41_etc1_etc2 R130). -/
def tPaintOf (T : Config.Tables) (d : Block) (o i : Nat) (ch : Channel) : Nat :=
  let dist := etcDist T (2 * (byte d (o + 3) / 4 % 4) + byte d (o + 3) % 2)
  if i = 0 then tBase d o false ch
  else if i = 1 then clamp8 (tBase d o true ch + dist)
  else if i = 2 then tBase d o true ch
  else clamp8 (tBase d o true ch - dist)

/-- H-mode base colours (41_etc1_etc2 R131, 30_encoding R73). -/
def hBase (d : Block) (o : Nat) (second : Bool) : Channel → Nat
  | .r => 17 * (if second then byte d (o + 2) / 8 % 16 else byte d o / 8 % 16)
  | .g => 17 * (if second then 2 * (byte d (o + 2) % 8) + byte d (o + 3) / 128
      else 2 * (byte d o % 8) + byte d (o + 1) / 16 % 2)
  | .b => 17 * (if second then byte d (o + 3) / 8 % 16
      else 8 * (byte d (o + 1) / 8 % 2) + 2 * (byte d (o + 1) % 4) + byte d (o + 2) / 128)

/-- The first base of an H block is numerically at least the second, red most significant (41_etc1_etc2 R131). -/
def hFirstLarger (d : Block) (o : Nat) : Bool :=
  hBase d o true .r * 65536 + hBase d o true .g * 256 + hBase d o true .b
    ≤ hBase d o false .r * 65536 + hBase d o false .g * 256 + hBase d o false .b

/-- H-mode paint colour `i` (41_etc1_etc2 R131). -/
def hPaintOf (T : Config.Tables) (d : Block) (o i : Nat) (ch : Channel) : Nat :=
  let dist := etcDist T (4 * (byte d (o + 3) / 4 % 2) + 2 * (byte d (o + 3) % 2) + (if hFirstLarger d o then 1 else 0))
  clamp8 (hBase d o (2 ≤ i) ch + (if i % 2 = 0 then dist else -dist))

/-- Planar corner colours `O`, `H`, `V` (41_etc1_etc2 R133, 30_encoding R73), `k` = 0, 1, 2. -/
def planarCorner (d : Block) (o : Nat) (k : Fin 3) (ch : Channel) : Nat :=
  match k, ch with
  | 0, .r => ext6 (byte d o / 2 % 64)
  | 0, .g => ext7 (64 * (byte d o % 2) + byte d (o + 1) / 2 % 64)
  | 0, .b => ext6 (32 * (byte d (o + 1) % 2) + 8 * (byte d (o + 2) / 8 % 4) + 2 * (byte d (o + 2) % 4) + byte d (o + 3) / 128)
  | 1, .r => ext6 (2 * (byte d (o + 3) / 4 % 32) + byte d (o + 3) % 2)
  | 1, .g => ext7 (byte d (o + 4) / 2)
  | 1, .b => ext6 (32 * (byte d (o + 4) % 2) + byte d (o + 5) / 8)
  | 2, .r => ext6 (8 * (byte d (o + 5) % 8) + byte d (o + 6) / 32)
  | 2, .g => ext7 (4 * (byte d (o + 6) % 32) + byte d (o + 7) / 64)
  | 2, .b => ext6 (byte d (o + 7) % 64)

/-- Planar value of a channel at pixel `p`, the numerator in its other form `x*H + y*V + (4-x-y)*O + 2`
(40_bitfield_extractor R115). -/
def planarOf (d : Block) (o : Nat) (p : Fin 16) (ch : Channel) : Nat :=
  clamp8 (Int.fdiv ((p.val % 4 : Nat) * (planarCorner d o 1 ch : Int) + (p.val / 4 : Nat) * (planarCorner d o 2 ch : Int)
    + (4 - (p.val % 4 : Nat) - (p.val / 4 : Nat)) * (planarCorner d o 0 ch : Int) + 2) 4)

/-- The mode the sums select, the individual mode apart (41_etc1_etc2 R122). -/
def sumMode (d : Block) (o : Nat) : EtcMode :=
  if etcSumOf d o .r < 0 ∨ 31 < etcSumOf d o .r then .t
  else if etcSumOf d o .g < 0 ∨ 31 < etcSumOf d o .g then .h
  else if etcSumOf d o .b < 0 ∨ 31 < etcSumOf d o .b then .planar
  else .diff

/-- A channel of an ETC1 pixel (41_etc1_etc2 R125 to R128, R135). -/
def etc1Channel (T : Config.Tables) (ovf : Channel → Nat) (d : Block) (p : Fin 16) (ch : Channel) : Nat :=
  clamp8 ((if etcDiffBit d 0 = 0 then indBase d 0 (etcSecond d 0 p) ch else diffBase ovf d 0 (etcSecond d 0 p) ch : Nat)
    + etcMod T d 0 p)

/-- A channel of an ETC2 pixel, the colour word at byte `o` (41_etc1_etc2 R125 to R133, R136). -/
def etc2Channel (T : Config.Tables) (d : Block) (o : Nat) (p : Fin 16) (ch : Channel) : Nat :=
  if etcDiffBit d o = 0 then clamp8 (indBase d o (etcSecond d o p) ch + etcMod T d o p)
  else
    match sumMode d o with
    | .t => tPaintOf T d o (etcIdx d o p) ch
    | .h => hPaintOf T d o (etcIdx d o p) ch
    | .planar => planarOf d o p ch
    | _ => clamp8 (diffBase (fun _ => 0) d o (etcSecond d o p) ch + etcMod T d o p)

/-- Whether pixel `p` of a punch-through block is transparent (41_etc1_etc2 R134). -/
def punchClear (d : Block) (p : Fin 16) : Bool :=
  etcDiffBit d 0 = 0 ∧ etcIdx d 0 p = 2 ∧ sumMode d 0 ≠ .planar

/-- A channel of a punch-through pixel that is not transparent (41_etc1_etc2 R134). -/
def punchChannel (T : Config.Tables) (d : Block) (p : Fin 16) (ch : Channel) : Nat :=
  match sumMode d 0 with
  | .t => tPaintOf T d 0 (etcIdx d 0 p) ch
  | .h => hPaintOf T d 0 (etcIdx d 0 p) ch
  | .planar => planarOf d 0 p ch
  | _ => clamp8 (diffBase (fun _ => 0) d 0 (etcSecond d 0 p) ch
      + (if etcDiffBit d 0 = 0 ∧ etcIdx d 0 p = 0 then 0 else etcMod T d 0 p))

/-- A pixel from a function of the channel and a fourth lane. -/
def rgbPixel (f : Channel → Nat) (fourth : Nat) : Pixel := ⟨laneN (f .r), laneN (f .g), laneN (f .b), laneN fourth⟩

/-! BC6H and BC7 -/

/-- The block as a number, block bit `n` being bit `n mod 8` of byte `n div 8` (20_memory R44 (b)). -/
def blockNat (d : Block) : Nat := bytesToNat d.toList

/-- The field of `w` bits whose lowest is block bit `lo`. -/
def field (d : Block) (lo w : Nat) : Nat := blockNat d / 2 ^ lo % 2 ^ w

/-- The block bit where pixel `p`'s index starts: after the indices of the pixels before it (45_shared_tables R237). -/
def indexStart (T : Config.Tables) (start n ns part p : Nat) : Nat := start + ((List.range p).map (indexWidth T n ns part)).sum

/-- The index of pixel `p` (45_shared_tables R237). -/
def indexOf (T : Config.Tables) (d : Block) (start n ns part p : Nat) : Nat :=
  field d (indexStart T start n ns part p) (indexWidth T n ns part p)

/-- The bit of a header field that block bit `k` is, by the cell of the layout that names it (46_bc6h R253). -/
def fieldBitAt (m : Config.Bc6hMode) (k : Nat) : Option (Config.HeaderField × Nat) :=
  (m.cells.find? fun c => c.lo ≤ k ∧ k ≤ c.hi).map fun c =>
    (c.field, if c.b ≤ c.a then c.b + (k - c.lo) else c.b - (k - c.lo))

/-- The block bits of each header field of a BC6H mode, from the field's bit 0 upwards, as the tables of 46_bc6h R254 print them; none
where the mode has no such field. -/
structure Bc6hPositions where
  r0 : List Nat
  g0 : List Nat
  b0 : List Nat
  r1 : List Nat
  g1 : List Nat
  b1 : List Nat
  r2 : List Nat
  g2 : List Nat
  b2 : List Nat
  r3 : List Nat
  g3 : List Nat
  b3 : List Nat
  part : List Nat
deriving DecidableEq, Repr

/-- The block bits of one field. -/
def Bc6hPositions.bitsOf (q : Bc6hPositions) : Config.HeaderField → List Nat
  | .ep 0 .r => q.r0
  | .ep 0 .g => q.g0
  | .ep 0 .b => q.b0
  | .ep 1 .r => q.r1
  | .ep 1 .g => q.g1
  | .ep 1 .b => q.b1
  | .ep 2 .r => q.r2
  | .ep 2 .g => q.g2
  | .ep 2 .b => q.b2
  | .ep 3 .r => q.r3
  | .ep 3 .g => q.g3
  | .ep 3 .b => q.b3
  | .ep _ _ => []
  | .part => q.part

/-- `n` block bits in a row, from `lo` upwards. -/
def run (lo n : Nat) : List Nat := List.range' lo n

/-- Where the fields of mode m0 stand (46_bc6h R254). -/
def bc6hPositions0 : Bc6hPositions where
  r0 := run 5 10
  g0 := run 15 10
  b0 := run 25 10
  r1 := run 35 5
  g1 := run 45 5
  b1 := run 55 5
  r2 := run 65 5
  g2 := run 41 4 ++ [2]
  b2 := run 61 4 ++ [3]
  r3 := run 71 5
  g3 := run 51 4 ++ [40]
  b3 := [50, 60, 70, 76, 4]
  part := run 77 5

/-- Where the fields of mode m1 stand (46_bc6h R254). -/
def bc6hPositions1 : Bc6hPositions where
  r0 := run 5 7
  g0 := run 15 7
  b0 := run 25 7
  r1 := run 35 6
  g1 := run 45 6
  b1 := run 55 6
  r2 := run 65 6
  g2 := run 41 4 ++ [24, 2]
  b2 := run 61 4 ++ [14, 22]
  r3 := run 71 6
  g3 := run 51 4 ++ [3, 4]
  b3 := [12, 13, 23, 32, 34, 33]
  part := run 77 5

/-- Where the fields of mode m2 stand (46_bc6h R254). -/
def bc6hPositions2 : Bc6hPositions where
  r0 := run 5 10 ++ [40]
  g0 := run 15 10 ++ [49]
  b0 := run 25 10 ++ [59]
  r1 := run 35 5
  g1 := run 45 4
  b1 := run 55 4
  r2 := run 65 5
  g2 := run 41 4
  b2 := run 61 4
  r3 := run 71 5
  g3 := run 51 4
  b3 := [50, 60, 70, 76]
  part := run 77 5

/-- Where the fields of mode m3 stand (46_bc6h R254). -/
def bc6hPositions3 : Bc6hPositions where
  r0 := run 5 10 ++ [39]
  g0 := run 15 10 ++ [50]
  b0 := run 25 10 ++ [59]
  r1 := run 35 4
  g1 := run 45 5
  b1 := run 55 4
  r2 := run 65 4
  g2 := run 41 4 ++ [75]
  b2 := run 61 4
  r3 := run 71 4
  g3 := run 51 4 ++ [40]
  b3 := [69, 60, 70, 76]
  part := run 77 5

/-- Where the fields of mode m4 stand (46_bc6h R254). -/
def bc6hPositions4 : Bc6hPositions where
  r0 := run 5 10 ++ [39]
  g0 := run 15 10 ++ [49]
  b0 := run 25 10 ++ [60]
  r1 := run 35 4
  g1 := run 45 4
  b1 := run 55 5
  r2 := run 65 4
  g2 := run 41 4
  b2 := run 61 4 ++ [40]
  r3 := run 71 4
  g3 := run 51 4
  b3 := [50, 69, 70, 76, 75]
  part := run 77 5

/-- Where the fields of mode m5 stand (46_bc6h R254). -/
def bc6hPositions5 : Bc6hPositions where
  r0 := run 5 9
  g0 := run 15 9
  b0 := run 25 9
  r1 := run 35 5
  g1 := run 45 5
  b1 := run 55 5
  r2 := run 65 5
  g2 := run 41 4 ++ [24]
  b2 := run 61 4 ++ [14]
  r3 := run 71 5
  g3 := run 51 4 ++ [40]
  b3 := [50, 60, 70, 76, 34]
  part := run 77 5

/-- Where the fields of mode m6 stand (46_bc6h R254). -/
def bc6hPositions6 : Bc6hPositions where
  r0 := run 5 8
  g0 := run 15 8
  b0 := run 25 8
  r1 := run 35 6
  g1 := run 45 5
  b1 := run 55 5
  r2 := run 65 6
  g2 := run 41 4 ++ [24]
  b2 := run 61 4 ++ [14]
  r3 := run 71 6
  g3 := run 51 4 ++ [13]
  b3 := [50, 60, 23, 33, 34]
  part := run 77 5

/-- Where the fields of mode m7 stand (46_bc6h R254). -/
def bc6hPositions7 : Bc6hPositions where
  r0 := run 5 8
  g0 := run 15 8
  b0 := run 25 8
  r1 := run 35 5
  g1 := run 45 6
  b1 := run 55 5
  r2 := run 65 5
  g2 := run 41 4 ++ [24, 23]
  b2 := run 61 4 ++ [14]
  r3 := run 71 5
  g3 := run 51 4 ++ [40, 33]
  b3 := [13, 60, 70, 76, 34]
  part := run 77 5

/-- Where the fields of mode m8 stand (46_bc6h R254). -/
def bc6hPositions8 : Bc6hPositions where
  r0 := run 5 8
  g0 := run 15 8
  b0 := run 25 8
  r1 := run 35 5
  g1 := run 45 5
  b1 := run 55 6
  r2 := run 65 5
  g2 := run 41 4 ++ [24]
  b2 := run 61 4 ++ [14, 23]
  r3 := run 71 5
  g3 := run 51 4 ++ [40]
  b3 := [50, 13, 70, 76, 34, 33]
  part := run 77 5

/-- Where the fields of mode m9 stand (46_bc6h R254). -/
def bc6hPositions9 : Bc6hPositions where
  r0 := run 5 6
  g0 := run 15 6
  b0 := run 25 6
  r1 := run 35 6
  g1 := run 45 6
  b1 := run 55 6
  r2 := run 65 6
  g2 := run 41 4 ++ [24, 21]
  b2 := run 61 4 ++ [14, 22]
  r3 := run 71 6
  g3 := run 51 4 ++ [11, 31]
  b3 := [12, 13, 23, 32, 34, 33]
  part := run 77 5

/-- Where the fields of mode m10 stand (46_bc6h R254). -/
def bc6hPositions10 : Bc6hPositions where
  r0 := run 5 10
  g0 := run 15 10
  b0 := run 25 10
  r1 := run 35 10
  g1 := run 45 10
  b1 := run 55 10
  r2 := []
  g2 := []
  b2 := []
  r3 := []
  g3 := []
  b3 := []
  part := []

/-- Where the fields of mode m11 stand (46_bc6h R254). -/
def bc6hPositions11 : Bc6hPositions where
  r0 := run 5 10 ++ [44]
  g0 := run 15 10 ++ [54]
  b0 := run 25 10 ++ [64]
  r1 := run 35 9
  g1 := run 45 9
  b1 := run 55 9
  r2 := []
  g2 := []
  b2 := []
  r3 := []
  g3 := []
  b3 := []
  part := []

/-- Where the fields of mode m12 stand (46_bc6h R254). -/
def bc6hPositions12 : Bc6hPositions where
  r0 := run 5 10 ++ [44, 43]
  g0 := run 15 10 ++ [54, 53]
  b0 := run 25 10 ++ [64, 63]
  r1 := run 35 8
  g1 := run 45 8
  b1 := run 55 8
  r2 := []
  g2 := []
  b2 := []
  r3 := []
  g3 := []
  b3 := []
  part := []

/-- Where the fields of mode m13 stand (46_bc6h R254). -/
def bc6hPositions13 : Bc6hPositions where
  r0 := run 5 10 ++ [44, 43, 42, 41, 40, 39]
  g0 := run 15 10 ++ [54, 53, 52, 51, 50, 49]
  b0 := run 25 10 ++ [64, 63, 62, 61, 60, 59]
  r1 := run 35 4
  g1 := run 45 4
  b1 := run 55 4
  r2 := []
  g2 := []
  b2 := []
  r3 := []
  g3 := []
  b3 := []
  part := []

/-- The tables of 46_bc6h R254, modes m0 to m13. -/
def bc6hPositions : List Bc6hPositions :=
  [bc6hPositions0, bc6hPositions1, bc6hPositions2, bc6hPositions3, bc6hPositions4, bc6hPositions5, bc6hPositions6,
    bc6hPositions7, bc6hPositions8, bc6hPositions9, bc6hPositions10, bc6hPositions11, bc6hPositions12, bc6hPositions13]

/-- Endpoint `i`, channel `c` of a BC6H block from its raw fields: the sum of the unsigned base field and the sign-extended
delta, modulo `2^epBits` in both formats (46_bc6h R256, R257). -/
def bc6hE (signed : Bool) (m : Config.Bc6hMode) (raw : Nat → Channel → Nat) (i : Nat) (c : Channel) : Int :=
  let t : Int :=
    if i = 0 ∨ m.tr = false then raw i c else ((raw 0 c : Int) + sext (dBits m c) (raw i c)) % 2 ^ m.epBits
  if signed then sext m.epBits t.toNat else t

/-- One lane of a BC6H pixel (46_bc6h R264, R265). -/
def bc6hLane (T : Config.Tables) (signed : Bool) (m : Config.Bc6hMode) (raw : Nat → Channel → Nat) (part : Nat) (d : Block) (p : Fin 16)
    (c : Channel) : Lane :=
  laneN (fin signed (interp (unq signed (bc6hE signed m raw (2 * subset T m.ns part p.val) c) m.epBits)
    (unq signed (bc6hE signed m raw (2 * subset T m.ns part p.val + 1) c) m.epBits)
    (weight T m.n (indexOf T d (if m.ns = 2 then 82 else 65) m.n m.ns part p.val))))

/-- The lowest block bit of each field of a BC7 mode, as the table of 47_bc7 R293 prints it; 0 where the mode has no such
field. -/
structure Bc7Positions where
  part : Nat
  rot : Nat
  isel : Nat
  r : Nat
  g : Nat
  b : Nat
  a : Nat
  p : Nat
  stream1 : Nat
  stream2 : Nat
deriving DecidableEq, Repr

/-- The table of 47_bc7 R293, modes 0 to 7. -/
def bc7Positions : List Bc7Positions :=
  [⟨1, 0, 0, 5, 29, 53, 0, 77, 83, 0⟩,
   ⟨2, 0, 0, 8, 32, 56, 0, 80, 82, 0⟩,
   ⟨3, 0, 0, 9, 39, 69, 0, 0, 99, 0⟩,
   ⟨4, 0, 0, 10, 38, 66, 0, 94, 98, 0⟩,
   ⟨0, 5, 7, 8, 18, 28, 38, 0, 50, 81⟩,
   ⟨0, 6, 0, 8, 22, 36, 50, 0, 66, 97⟩,
   ⟨0, 0, 0, 7, 21, 35, 49, 63, 65, 0⟩,
   ⟨8, 0, 0, 14, 34, 54, 74, 94, 98, 0⟩]

/-- `P[e]` (47_bc7 R294). -/
def bc7P (d : Block) (c : Config.Bc7Mode) (q : Bc7Positions) (e : Nat) : Nat :=
  match c.p with
  | .none => 0
  | .perEndpoint => field d (q.p + e) 1
  | .perSubset => field d (q.p + e / 2) 1

/-- `E[e]` (47_bc7 R295). -/
def bc7E (d : Block) (c : Config.Bc7Mode) (q : Bc7Positions) (e : Nat) : Rgba :=
  ⟨bc7Unq c c.cb (field d (q.r + e * c.cb) c.cb) (bc7P d c q e),
    bc7Unq c c.cb (field d (q.g + e * c.cb) c.cb) (bc7P d c q e),
    bc7Unq c c.cb (field d (q.b + e * c.cb) c.cb) (bc7P d c q e),
    bc7Unq c c.ab (field d (q.a + e * c.ab) c.ab) (bc7P d c q e)⟩

/-- One pixel of a BC7 block (47_bc7 R303). -/
def bc7PixelOf (T : Config.Tables) (d : Block) (c : Config.Bc7Mode) (q : Bc7Positions) (p : Fin 16) : Pixel :=
  let part := field d q.part c.pb
  let isel := if c.isel = 0 then 0 else field d q.isel 1
  let rot := if c.rot = 0 then 0 else field d q.rot 2
  let s := subset T c.ns part p.val
  (rotate rot (bc7Value T c isel (bc7E d c q (2 * s)) (bc7E d c q (2 * s + 1)) (indexOf T d q.stream1 c.n1 c.ns part p.val)
    (if c.n2 = 0 then 0 else indexOf T d q.stream2 c.n2 1 0 p.val))).pixel

/-- `BLK[0]` selects BC7 mode `m`: `m` zeros below a one (47_bc7 R290). -/
def Bc7InMode (d : Block) (m : Nat) : Prop := byte d 0 % 2 ^ (m + 1) = 2 ^ m

/-! Relations between blocks and values -/

/-- Two blocks agree on the bytes from `lo` up to but not with `hi`. -/
def SameBytes (d d' : Block) (lo hi : Nat) : Prop := ∀ k, lo ≤ k → k < hi → byte d k = byte d' k

/-- The block whose first half is the second half of `d`, its second half zero. -/
def upperHalf (d : Block) : Block := Vector.ofFn fun k => if h : k.val < 8 then d[k.val + 8] else 0

/-- The list runs monotonically from `a` to `b`, whichever is larger: so every entry lies between them. -/
def RunsFromTo (a b : Int) (l : List Int) : Prop :=
  (a ≤ b → (a :: l ++ [b]).Pairwise (· ≤ ·)) ∧ (b ≤ a → (a :: l ++ [b]).Pairwise (· ≥ ·))

/-- The tiler's preconditions (48_tiler_contract R336 to R338; 20_memory R42: the destination is already allocated in the exact
layout, every pixel with the bytes the layout gives it). -/
def TilerReady (t : Texture) (dst : Image) : Prop :=
  legalCode t.fmt = true ∧ dst.layout ∈ canonicalLayouts t.fmt ∧ dst.texelsFit = true ∧ dst.extent = t.extent
    ∧ dst.texels.length = dst.extent.pixelCount ∧ t.packed.length = sourceLength t

/-- The raster index of the block that holds pixel (`x`, `y`, `z`) of an image (48_tiler_contract R330, R331). -/
def blockOf (e : Extent) (x y z : Nat) : Nat := (z * ((e.h + 3) / 4) + y / 4) * ((e.w + 3) / 4) + x / 4

/-- The low and the high byte of a lane, in this order (20_memory R46). -/
def lowHigh (l : Lane) : List Byte := [BitVec.ofNat 8 (l.toNat % 256), BitVec.ofNat 8 (l.toNat / 256)]

end Sys2Proof.Claims
end

