-- ==== Sys2Proof/Certificates/Slice0/Obligations.lean ====
section
/-! DEFINITION. The statements about the BDU, for the provers. Their vocabulary is Certificates/Slice0/ByteView.lean and
Safety.lean. -/

open Sys2Proof Sys2Proof.Machine Sys2Proof.Claims Sys2Proof.Safety

/-! Steps, requests and their encoding -/

/-- A step whose next action is a request runs the instruction decoded from it, on the state with that action removed; and so
it does when the request enters as its bits (10_state R24, R27; 70_reset_and_hazards R388; log entries 6 and 8). -/
def Obligations.StepRunsTheDecodedRequest : Prop :=
  (∀ s r rest, s.todo = .decode r :: rest → step s = exec (decodeRequest r) { s with todo := rest }) ∧
  (∀ s nbits w i, decodeTableWord nbits w = some i → step (s.withFetchWord nbits w) = exec i s)

/-- A step with no action left changes nothing (60_exceptions R366; that a run's end is an idle step is log entry 6). -/
def Obligations.IdleUnitHoldsItsRegisters : Prop := ∀ s, s.todo = [] → step s = .next s

/-- Requests written out as 133-bit words, one or more of every family (30_encoding R60, R69; the place of the fields in the
word is log entry 8). -/
def Obligations.WrittenOutWordsDecode : Prop :=
  decodeTableWord 136 0x1FFFEB = some (.bc1RgbUnorm #v[0xFF, 0xFF, 0, 0, 0, 0, 0, 0, 0, 0, 0, 0, 0, 0, 0, 0]) ∧
  decodeTableWord 8 0x00 = some (.etc1Rgb8 (Vector.replicate 16 0)) ∧
  decodeTableWord 16 0x1021 = some (.eacR11 #v[0x81, 0, 0, 0, 0, 0, 0, 0, 0, 0, 0, 0, 0, 0, 0, 0]) ∧
  decodeTableWord 136 0x65 = some (.etc2Rgb8 #v[3, 0, 0, 0, 0, 0, 0, 0, 0, 0, 0, 0, 0, 0, 0, 0]) ∧
  decodeTableWord 136 (15 + 2 ^ 125) = some (.bc2Unorm #v[0, 0, 0, 0, 0, 0, 0, 0, 0, 0, 0, 0, 0, 0, 0, 1]) ∧
  decodeTableWord 136 (18 + 2 ^ 132) = some (.bc3Srgb #v[0, 0, 0, 0, 0, 0, 0, 0, 0, 0, 0, 0, 0, 0, 0, 128]) ∧
  decodeTableWord 136 (20 + 2 ^ 13) = some (.bc4Snorm #v[0, 1, 0, 0, 0, 0, 0, 0, 0, 0, 0, 0, 0, 0, 0, 0]) ∧
  decodeTableWord 136 0x277 = some (.bc6hUfloat #v[0x13, 0, 0, 0, 0, 0, 0, 0, 0, 0, 0, 0, 0, 0, 0, 0]) ∧
  decodeTableWord 136 0x819 = some (.bc7Unorm #v[0x40, 0, 0, 0, 0, 0, 0, 0, 0, 0, 0, 0, 0, 0, 0, 0]) ∧
  decodeTableWord 136 0x1F = some (.reserved31 (Vector.replicate 16 0)) ∧
  decodeTableWord 136 (2 ^ 133) = none

/-- The 32 codes name the rows of the table, and the 27 formats have the block sizes it gives (30_encoding R60, R61, R66). -/
def Obligations.RequestCodesNameTheRows : Prop :=
  (∀ d : Block,
    decodeRequest ⟨0, d⟩ = .etc1Rgb8 d ∧ decodeRequest ⟨1, d⟩ = .eacR11 d ∧ decodeRequest ⟨2, d⟩ = .eacSignedR11 d ∧
    decodeRequest ⟨3, d⟩ = .eacRg11 d ∧ decodeRequest ⟨4, d⟩ = .eacSignedRg11 d ∧ decodeRequest ⟨5, d⟩ = .etc2Rgb8 d ∧
    decodeRequest ⟨6, d⟩ = .etc2Srgb8 d ∧ decodeRequest ⟨7, d⟩ = .etc2Rgb8Pta1 d ∧ decodeRequest ⟨8, d⟩ = .etc2Srgb8Pta1 d ∧
    decodeRequest ⟨9, d⟩ = .etc2EacRgba8 d ∧ decodeRequest ⟨10, d⟩ = .etc2EacSrgb8A8 d ∧
    decodeRequest ⟨11, d⟩ = .bc1RgbUnorm d ∧ decodeRequest ⟨12, d⟩ = .bc1RgbSrgb d ∧ decodeRequest ⟨13, d⟩ = .bc1RgbaUnorm d ∧
    decodeRequest ⟨14, d⟩ = .bc1RgbaSrgb d ∧ decodeRequest ⟨15, d⟩ = .bc2Unorm d ∧ decodeRequest ⟨16, d⟩ = .bc2Srgb d ∧
    decodeRequest ⟨17, d⟩ = .bc3Unorm d ∧ decodeRequest ⟨18, d⟩ = .bc3Srgb d ∧ decodeRequest ⟨19, d⟩ = .bc4Unorm d ∧
    decodeRequest ⟨20, d⟩ = .bc4Snorm d ∧ decodeRequest ⟨21, d⟩ = .bc5Unorm d ∧ decodeRequest ⟨22, d⟩ = .bc5Snorm d ∧
    decodeRequest ⟨23, d⟩ = .bc6hUfloat d ∧ decodeRequest ⟨24, d⟩ = .bc6hSfloat d ∧ decodeRequest ⟨25, d⟩ = .bc7Unorm d ∧
    decodeRequest ⟨26, d⟩ = .bc7Srgb d ∧ decodeRequest ⟨27, d⟩ = .reserved27 d ∧ decodeRequest ⟨28, d⟩ = .reserved28 d ∧
    decodeRequest ⟨29, d⟩ = .reserved29 d ∧ decodeRequest ⟨30, d⟩ = .reserved30 d ∧ decodeRequest ⟨31, d⟩ = .reserved31 d) ∧
  (∀ fmt ∈ [(0 : FmtCode), 1, 2, 5, 6, 7, 8, 11, 12, 13, 14, 19, 20], blockBytes fmt = 8) ∧
  (∀ fmt ∈ [(3 : FmtCode), 4, 9, 10, 15, 16, 17, 18, 21, 22, 23, 24, 25, 26], blockBytes fmt = 16)

/-- Every instruction is well-formed, and decoding its encoding gives it back, every one of its sixteen bytes included. -/
def Obligations.DecodingAnEncodingGivesTheInstruction : Prop :=
  ∀ i : Instr, i.wellFormed = true ∧ decodeBytes (encode i) = .ok i ∧
    decodeTableWord 136 (bytesToNat (encode i)) = some i

/-- Every byte string the decoder accepts is the encoding of what it answers; the others are refused by name: a wrong length,
or a set bit above bit 132. The spec has no bytes of a request: the seventeen bytes and both refusals are the model's choice, log
entry 8 (DEDUCED). -/
def Obligations.OnlyEncodingsAreAccepted : Prop :=
  (∀ bs i, decodeBytes bs = .ok i → encode i = bs) ∧
  (∀ bs, bs.length ≠ 17 → decodeBytes bs = .error .badLength) ∧
  (∀ bs, bs.length = 17 → (decodeBytes bs = .error .paddingSet ↔ 2 ^ 133 ≤ bytesToNat bs))

/-- The row is selected by the low five bits alone and the operand is the 128 bits above them, byte by byte (30_encoding R60,
R69, log entry 8). -/
def Obligations.FormatFieldAndOperandBits : Prop :=
  ∀ n < 2 ^ 133, ∃ i, decodeTableWord 136 n = some i ∧ i.code.toNat = n % 32 ∧
    ∀ k : Fin 16, i.block[k].toNat = n / 2 ^ (5 + 8 * k.val) % 256

/-! Reset, reads, the exception, whole runs -/

/-- What reset leaves: both status bits 0, and `PX` not readable (10_state R31). The values the model holds in `FMT`, `BLK` and
`PX` are its own choice (log entries 1 and 2) and this statement says nothing of them. That a read of `PX` stops the run is the
model's choice too, log entry 17 (DESIGN CHOICE, after 10_state R30 and 60_exceptions R353 (c)). -/
def Obligations.StatusAfterReset : Prop :=
  State.reset.valid = false ∧ State.reset.err = false ∧ ∀ p, perform (.readPx p) State.reset = .fault .readInvalidPx

/-- The `RESET` event clears both status bits, and is the only action that clears `ERR` (70_reset_and_hazards R380). The model's
choices, both DESIGN CHOICE: `RESET` leaves `params`, `todo`, `reads` and `lost` (log entry 15), and a read of `PX` then stops
(log entry 17). -/
def Obligations.ResetEventClearsTheStatus : Prop :=
  (∀ s, ∃ t, perform .reset s = .next t ∧ t.valid = false ∧ t.err = false ∧
    (∀ p, perform (.readPx p) t = .fault .readInvalidPx) ∧
    t.params = s.params ∧ t.todo = s.todo ∧ t.reads = s.reads ∧ t.lost = s.lost) ∧
  (∀ a s t, perform a s = .next t → s.err = true → t.err = false → a = .reset)

/-- A read answers the register and changes none; a read of `PX` without a valid response answers nothing (10_state R30,
20_memory R48, 60_exceptions R353 (c)). What was read goes to the model's own list (log entry 7), and that the read without a
response stops the run with `readInvalidPx` is the model's choice, log entry 17 (DESIGN CHOICE). -/
def Obligations.ReadsAnswerAndChangeNothing : Prop :=
  (∀ s p, s.valid = true → perform (.readPx p) s = .next { s with reads := .px p s.px[p] :: s.reads }) ∧
  (∀ s p, s.valid = false → perform (.readPx p) s = .fault .readInvalidPx) ∧
  (∀ s, perform .readStatus s = .next { s with reads := .status s.valid s.err :: s.reads })

/-- The five reserved requests take `IllegalFormat`: the whole effect of the step, and the next legal request runs normally,
sets `VALID` again and leaves `ERR` 1 (60_exceptions R351). That a later read of `PX` stops the run is the model's choice, log
entry 17 (DESIGN CHOICE). -/
def Obligations.ReservedRequestsTakeIllegalFormat : Prop :=
  ∀ (d : Block) (s : State) (i : Instr),
    i ∈ [.reserved27 d, .reserved28 d, .reserved29 d, .reserved30 d, .reserved31 d] →
    ∃ t, exec i s = .next t ∧ t.fmt = i.code ∧ 27 ≤ t.fmt.toNat ∧ t.blk = d ∧ t.valid = false ∧ t.err = true ∧
      t.params = s.params ∧ t.todo = s.todo ∧ t.reads = s.reads ∧
      (∀ p, perform (.readPx p) t = .fault .readInvalidPx) ∧
      (∀ r, Answerable s r.fmt → ∃ u, exec (decodeRequest r) t = .next u ∧ u.valid = true ∧ u.err = true) ∧
      (∀ r, legalCode r.fmt = false → ∃ u, exec (decodeRequest r) t = .next u ∧ u.valid = false ∧ u.err = true)

/-- The one step of the BDU: every request of a legal code delivers `DecodeFn` of it, a total function, and a request of
a reserved code raises `IllegalFormat` (10_state R27). The BC6H and BC7 codes: with the printed tables (92_eei_decisions D26). -/
def Obligations.DecodeStepDeliversDecodeFn : Prop :=
  (∀ (r : Request) (s : State), Answerable s r.fmt →
    ∃ px, decodeFn s.params r.fmt r.d = some px ∧
      exec (decodeRequest r) s = .next { s with fmt := r.fmt, blk := r.d, px := px, valid := true }) ∧
  (∀ (r : Request) (s : State), legalCode r.fmt = false →
    ∃ t, exec (decodeRequest r) s = .next t ∧ t.fmt = r.fmt ∧ t.blk = r.d ∧ t.valid = false ∧ t.err = true ∧
      t.params = s.params ∧ t.todo = s.todo ∧ t.reads = s.reads)

/-- The lanes depend on the format and on the first 8 or 16 bytes only: not on the other bytes, not on any register, not on
an earlier request (10_state R28). -/
def Obligations.ResponseDependsOnTheUsedBytesOnly : Prop :=
  ∀ (r r' : Request) (s s' : State), Answerable s r.fmt → r.fmt = r'.fmt →
    SameBytes r.d r'.d 0 (blockBytes r.fmt) → s.params = s'.params →
    ∃ t t', exec (decodeRequest r) s = .next t ∧ exec (decodeRequest r') s' = .next t' ∧ t.px = t'.px

/-- The properties of whole runs that 70_reset_and_hazards R390 lists: (a) after `RESET` and legal requests `ERR` is 0 and the
response is `DecodeFn` of the last one; (b) earlier requests do not matter; (c) the same request twice; (d) `ERR` is sticky.
(c) is about a legal request: after a reserved one `PX` holds no value. -/
def Obligations.PropertiesOfRuns : Prop :=
  (∀ (rs : List Request) (r : Request) (s : State), (∀ q ∈ rs ++ [r], Answerable s q.fmt) →
    ∃ t, performAll (.reset :: (rs ++ [r]).map Action.decode) s = .next t ∧ t.err = false ∧ t.valid = true ∧
      decodeFn s.params r.fmt r.d = some t.px) ∧
  (∀ (rs rs' : List Request) (r : Request) (s : State), (∀ q ∈ rs ++ rs', legalCode q.fmt = true → Answerable s q.fmt) →
    Answerable s r.fmt →
    ∃ t t', performAll ((rs ++ [r]).map Action.decode) s = .next t ∧
      performAll ((rs' ++ [r]).map Action.decode) s = .next t' ∧ t.px = t'.px) ∧
  (∀ (r : Request) (s : State), Answerable s r.fmt →
    ∃ t t', performAll [.decode r] s = .next t ∧ performAll [.decode r, .decode r] s = .next t' ∧ t.px = t'.px) ∧
  (∀ (as : List Action) (s t : State), Action.reset ∉ as → s.err = true → performAll as s = .next t → t.err = true)

/-- INVARIANT: while `VALID` is 1, `PX` is `DecodeFn` of the request in `FMT` and `BLK`, whose code is legal. -/
def Obligations.EveryStepKeepsTheResponse : Prop :=
  ∀ s t, ResponseHolds s → ValidMeansLegal s → step s = .next t → ResponseHolds t ∧ ValidMeansLegal t

/-- INVARIANT, of a machine with the printed tables: while `VALID` is 1, every lane lies in the range that the table of 30_encoding
R63 gives the format (BC6H: those of 46_bc6h R266 (e), so a lane is `0xFC00` only if the first byte selects m13), and unused lanes
are 0. -/
def Obligations.EveryStepKeepsTheLaneRanges : Prop :=
  ∀ s t, UsesPrintedTables s → LanesInRange s → step s = .next t → UsesPrintedTables t ∧ LanesInRange t

/-- The invariants hold right after reset. That the tables are then the printed ones is no clause of 10_state R31: the tables and their
values are 00_scope R7 and 70_reset_and_hazards R382, and that `State.reset` holds them, with the spec's defaults of the other
parameters, is the model's choice, log entry 5 (DESIGN CHOICE). -/
def Obligations.InvariantsHoldAfterReset : Prop :=
  ResponseHolds State.reset ∧ ValidMeansLegal State.reset ∧ UsesPrintedTables State.reset ∧ LanesInRange State.reset

/-- No action and no step writes a parameter, the literal tables among them (70_reset_and_hazards R382; that they stand in State is
log entry 5). -/
def Obligations.NoStepWritesTheTables : Prop :=
  (∀ a s t, perform a s = .next t → t.params = s.params) ∧ (∀ s t, step s = .next t → t.params = s.params) ∧
  (∀ as s t, performAll as s = .next t → t.params = s.params)

/-! The extractor and the shared primitives -/

/-- The words of a block, bit by bit (20_memory R44): the ETC and EAC words are big-endian, those of the BC formats
little-endian. -/
def Obligations.ByteOrderOfTheWords : Prop :=
  ∀ d : Block,
    (∀ n : Fin 64, (w0 d).getLsbD n = d[7 - n.val / 8].getLsbD (n.val % 8) ∧
      (w1 d).getLsbD n = d[15 - n.val / 8].getLsbD (n.val % 8) ∧
      (lo d).getLsbD n = d[n.val / 8].getLsbD (n.val % 8) ∧
      (hi d).getLsbD n = d[8 + n.val / 8].getLsbD (n.val % 8)) ∧
    (∀ n : Fin 128, (b128 d).getLsbD n = d[n.val / 8].getLsbD (n.val % 8)) ∧
    (b128 d).toNat = (lo d).toNat + (hi d).toNat * 2 ^ 64 ∧ (b128 d).toNat = blockNat d

/-- `bits128` on the pair (`LO`, `HI`): forward in the low word, in the high word and across the boundary, reversed bit by bit,
(40_bitfield_extractor R103). That an extraction with an end above 127 has no result is the model's choice, log entry 12 (DESIGN
CHOICE, after 40_bitfield_extractor R105 and 60_exceptions R354). -/
def Obligations.ExtractionForwardAndReversed : Prop :=
  ∀ l h : Word64,
    (∀ a b, a ≤ b → b ≤ 127 → ∃ v, bits128 (join128 l h) a b = some v ∧ v < 2 ^ (b - a + 1) ∧
      (∀ i, i ≤ b - a → v.testBit i = (join128 l h).getLsbD (a + i)) ∧
      (b ≤ 63 → v = l.toNat / 2 ^ a % 2 ^ (b - a + 1)) ∧
      (64 ≤ a → v = h.toNat / 2 ^ (a - 64) % 2 ^ (b - a + 1)) ∧
      (a ≤ 63 → 63 < b → v = l.toNat / 2 ^ a + h.toNat % 2 ^ (b - 63) * 2 ^ (64 - a))) ∧
    (∀ a b, a < b → b ≤ 127 → ∃ v, bits128 (join128 l h) b a = some v ∧ v < 2 ^ (b - a + 1) ∧
      ∀ i, i ≤ b - a → v.testBit i = (join128 l h).getLsbD (b - i)) ∧
    (∀ a b, 127 < a ∨ 127 < b → bits128 (join128 l h) a b = none)

/-- `sext_N` reads the low `N` bits as two's complement (40_bitfield_extractor R104). -/
def Obligations.SignExtensionIsTwosComplement : Prop :=
  ∀ n v, 1 ≤ n →
    (v.testBit (n - 1) = true → sext n v = (v % 2 ^ n : Nat) - 2 ^ n) ∧
    (v.testBit (n - 1) = false → sext n v = (v % 2 ^ n : Nat)) ∧
    -2 ^ (n - 1) ≤ sext n v ∧ sext n v < 2 ^ (n - 1) ∧ sext n v % 2 ^ n = (v % 2 ^ n : Nat)

/-- `rep8` is the four `ext` widenings, the identity on eight bits, and a bitwise OR of two shifted copies without a common
bit (40_bitfield_extractor R110). -/
def Obligations.BitReplication : Prop :=
  (∀ v < 16, rep8 v 4 = ext4 v) ∧ (∀ v < 32, rep8 v 5 = ext5 v) ∧ (∀ v < 64, rep8 v 6 = ext6 v) ∧
  (∀ v < 128, rep8 v 7 = ext7 v) ∧ (∀ v < 256, rep8 v 8 = v) ∧
  (∀ n ∈ [4, 5, 6, 7, 8], ∀ v < 2 ^ n,
    rep8 v n = v <<< (8 - n) ||| v >>> (2 * n - 8) ∧ (v <<< (8 - n)) &&& (v >>> (2 * n - 8)) = 0 ∧ rep8 v n < 256)

/-- The 11-bit widenings (40_bitfield_extractor R111, R112): the high bits repeated below the low ones, the signed one
mirrored, stored as two's complement. -/
def Obligations.ElevenBitWidening : Prop :=
  (∀ v < 2048, ext11u v = v <<< 5 ||| v >>> 6 ∧ ext11u v < 65536) ∧
  (∀ v : Int, -1023 ≤ v → v ≤ 1023 → ext11s (-v) = -ext11s v ∧ -32751 ≤ ext11s v ∧ ext11s v ≤ 32751 ∧
    (0 ≤ v → ext11s v = ext11u v.toNat) ∧ ((laneZ (ext11s v)).toNat : Int) = ext11s v % 65536)

/-! ETC1 and ETC2 -/

/-- `DEC.ETC1_RGB8` delivers, pixel by pixel, base colour plus modifier as read from the block's bytes; a channel whose
differential sum overflows takes its second base from `P_ETC1_OVF`: under `draw` the free value of log entry 4, under `wrap8` the
value of the rule's formula, which the model follows against the rule's example (log entry 18, DEDUCED), under `wrap5` the sum
modulo 32, widened (41_etc1_etc2 R121 to R128, R135). -/
def Obligations.Etc1RequestFromItsBytes : Prop :=
  ∀ d s, Delivers (.etc1Rgb8 d) s
    (pixels fun p => rgbPixel (etc1Channel s.params.tables (etcOverflow s.params d) d p) 0)

/-- `DEC.ETC2_RGB8` and `DEC.ETC2_SRGB8` in all five modes, from the block's bytes (41_etc1_etc2 R122 to R133, R136, R137). -/
def Obligations.Etc2RequestsFromTheirBytes : Prop :=
  ∀ d s, Delivers (.etc2Rgb8 d) s (pixels fun p => rgbPixel (etc2Channel s.params.tables d 0 p) 0) ∧
    Delivers (.etc2Srgb8 d) s (pixels fun p => rgbPixel (etc2Channel s.params.tables d 0 p) 0)

/-- `DEC.ETC2_RGB8_PTA1` and `DEC.ETC2_SRGB8_PTA1`: the transparent pixels are (0,0,0,0), the others opaque
(41_etc1_etc2 R134, R138, R139). -/
def Obligations.PunchThroughRequestsFromTheirBytes : Prop :=
  ∀ d s, Delivers (.etc2Rgb8Pta1 d) s
      (pixels fun p => if punchClear d p then ⟨0, 0, 0, 0⟩ else rgbPixel (punchChannel s.params.tables d p) 255) ∧
    Delivers (.etc2Srgb8Pta1 d) s
      (pixels fun p => if punchClear d p then ⟨0, 0, 0, 0⟩ else rgbPixel (punchChannel s.params.tables d p) 255)

/-- `DEC.ETC2_EAC_RGBA8` and `DEC.ETC2_EAC_SRGB8_A8`: colour from the second half, alpha from the first
(41_etc1_etc2 R140, R141, 42_eac R163). -/
def Obligations.EtcEacRequestsFromTheirBytes : Prop :=
  ∀ d s, Delivers (.etc2EacRgba8 d) s (pixels fun p => rgbPixel (etc2Channel s.params.tables d 8 p) (eac8Of s.params.tables d 0 p)) ∧
    Delivers (.etc2EacSrgb8A8 d) s (pixels fun p => rgbPixel (etc2Channel s.params.tables d 8 p) (eac8Of s.params.tables d 0 p))

/-- A block in individual mode, or in range in all three sums, decodes under ETC2 as under ETC1 (41_etc1_etc2 R136). -/
def Obligations.Etc2AgreesWithEtc1InRange : Prop :=
  ∀ d s, (etcDiffBit d 0 = 0 ∨ ∀ ch, SumOk d 0 ch) →
    ∃ t t', exec (.etc1Rgb8 d) s = .next t ∧ exec (.etc2Rgb8 d) s = .next t' ∧ t.px = t'.px

/-- With the opaque bit set a punch-through block has the colours of ETC2 and alpha 255 everywhere; with the bit clear the
transparent pixels are (0,0,0,0) and the others have alpha 255 (41_etc1_etc2 R134). -/
def Obligations.PunchThroughAgainstEtc2 : Prop :=
  ∀ d s, ∃ t t', exec (.etc2Rgb8Pta1 d) s = .next t ∧ exec (.etc2Rgb8 d) s = .next t' ∧
    (etcDiffBit d 0 = 1 → ∀ p : Fin 16, t.px[p] = { t'.px[p] with c3 := 255 }) ∧
    (∀ p : Fin 16, t.px[p].c3 = 255 ∨ t.px[p] = ⟨0, 0, 0, 0⟩) ∧
    (sumMode d 0 = .planar → ∀ p : Fin 16, t.px[p].c3 = 255)

/-- An ETC1 overflow leaves open nothing but its own channel in the second sub-block: under any two settings of `P_ETC1_OVF`
the lanes of the first sub-block and of the channels in range agree, and individual blocks agree whole (41_etc1_etc2 R127; the
value under `draw` is the free value of log entry 4; the values themselves are in Etc1RequestFromItsBytes). -/
def Obligations.Etc1OverflowStaysInItsChannel : Prop :=
  ∀ d s s', s.params.tables = s'.params.tables → ∃ t t', exec (.etc1Rgb8 d) s = .next t ∧ exec (.etc1Rgb8 d) s' = .next t' ∧
    ∀ p : Fin 16,
      (etcDiffBit d 0 = 0 ∨ etcSecond d 0 p = false ∨ SumOk d 0 .r → t.px[p].c0 = t'.px[p].c0) ∧
      (etcDiffBit d 0 = 0 ∨ etcSecond d 0 p = false ∨ SumOk d 0 .g → t.px[p].c1 = t'.px[p].c1) ∧
      (etcDiffBit d 0 = 0 ∨ etcSecond d 0 p = false ∨ SumOk d 0 .b → t.px[p].c2 = t'.px[p].c2)

/-! EAC -/

/-- The four EAC requests, from the block's bytes (42_eac R160 to R162, R164 to R169). -/
def Obligations.EacRequestsFromTheirBytes : Prop :=
  ∀ d s, Delivers (.eacR11 d) s (pixels fun p => ⟨laneN (eac11uOf s.params.tables d 0 p), 0, 0, 0⟩) ∧
    Delivers (.eacSignedR11 d) s (pixels fun p => ⟨laneZ (eac11sOf s.params.tables d 0 p), 0, 0, 0⟩) ∧
    Delivers (.eacRg11 d) s (pixels fun p => ⟨laneN (eac11uOf s.params.tables d 0 p), laneN (eac11uOf s.params.tables d 8 p), 0, 0⟩) ∧
    Delivers (.eacSignedRg11 d) s (pixels fun p => ⟨laneZ (eac11sOf s.params.tables d 0 p), laneZ (eac11sOf s.params.tables d 8 p), 0, 0⟩)

/-- RG11 is two independent R11 decodes: the red lane is that of the block, the green lane that of its second half taken as
a block, in both signednesses (42_eac R168, R169). -/
def Obligations.Rg11IsTwoIndependentR11 : Prop :=
  ∀ d s,
    (∃ t r g, exec (.eacRg11 d) s = .next t ∧ exec (.eacR11 d) s = .next r ∧ exec (.eacR11 (upperHalf d)) s = .next g ∧
      ∀ p : Fin 16, t.px[p] = ⟨r.px[p].c0, g.px[p].c0, 0, 0⟩) ∧
    (∃ t r g, exec (.eacSignedRg11 d) s = .next t ∧ exec (.eacSignedR11 d) s = .next r ∧
      exec (.eacSignedR11 (upperHalf d)) s = .next g ∧ ∀ p : Fin 16, t.px[p] = ⟨r.px[p].c0, g.px[p].c0, 0, 0⟩)

/-- In the signed variants the base codeword -128 is replaced by -127: words that differ in nothing but `80` against `81`
decode identically (42_eac R165). -/
def Obligations.SignedEacBaseMinus128 : Prop :=
  ∀ (d : Block) (s : State),
    (∃ t t', exec (.eacSignedR11 (d.set 0 0x80)) s = .next t ∧ exec (.eacSignedR11 (d.set 0 0x81)) s = .next t' ∧
      t.px = t'.px) ∧
    (∃ t t', exec (.eacSignedRg11 ((d.set 0 0x80).set 8 0x81)) s = .next t ∧
      exec (.eacSignedRg11 ((d.set 0 0x81).set 8 0x80)) s = .next t' ∧ t.px = t'.px)

/-! BC1, BC2, BC3 -/

/-- The four BC1 requests, from the block's bytes: the two palettes, the mode test on the raw endpoints, and alpha 0 exactly for
index 3 of a three-colour block of a format with alpha (43_bc1_bc2_bc3 R180, R181, R183, R184, R186 to R189). -/
def Obligations.Bc1RequestsFromTheirBytes : Prop :=
  ∀ d s, Delivers (.bc1RgbUnorm d) s (pixels fun p => bcPixel d 0 (bcThree d 0) p 255) ∧
    Delivers (.bc1RgbSrgb d) s (pixels fun p => bcPixel d 0 (bcThree d 0) p 255) ∧
    Delivers (.bc1RgbaUnorm d) s (pixels fun p => bcPixel d 0 (bcThree d 0) p (bc1Alpha true d p)) ∧
    Delivers (.bc1RgbaSrgb d) s (pixels fun p => bcPixel d 0 (bcThree d 0) p (bc1Alpha true d p))

/-- The two BC2 requests, from the block's bytes: always the four-colour palette, and the nibble times 17 as alpha
(43_bc1_bc2_bc3 R190 to R192). -/
def Obligations.Bc2RequestsFromTheirBytes : Prop :=
  ∀ d s, Delivers (.bc2Unorm d) s (pixels fun p => bcPixel d 8 false p (bc2AlphaOf d p)) ∧
    Delivers (.bc2Srgb d) s (pixels fun p => bcPixel d 8 false p (bc2AlphaOf d p))

/-- The two BC3 requests, from the block's bytes: always the four-colour palette, and the alpha ramp
(43_bc1_bc2_bc3 R193 to R196). -/
def Obligations.Bc3RequestsFromTheirBytes : Prop :=
  ∀ d s, Delivers (.bc3Unorm d) s
      (pixels fun p => bcPixel d 8 false p (rampAlpha (byte d 0) (byte d 1) (rampIdx d 0 p))) ∧
    Delivers (.bc3Srgb d) s
      (pixels fun p => bcPixel d 8 false p (rampAlpha (byte d 0) (byte d 1) (rampIdx d 0 p)))

/-- Palette entries 0 and 1 are the widened endpoints, and the interpolated entries run monotonically from the first to the
second in the order 0, 2, 3, ..., 1 (43_bc1_bc2_bc3 R197): both BC1 palettes in every channel, and both shapes of the alpha
ramp. -/
def Obligations.PalettesRunBetweenTheirEndpoints : Prop :=
  (∀ c0 c1, c0 < 65536 → c1 < 65536 → ∀ f ∈ [Rgba.r, Rgba.g, Rgba.b],
    palette4 c0 c1 0 = rgb565 c0 ∧ palette4 c0 c1 1 = rgb565 c1 ∧
    RunsFromTo (f (rgb565 c0)) (f (rgb565 c1)) [f (palette4 c0 c1 2), f (palette4 c0 c1 3)] ∧
    ∀ alphaFmt, palette3 alphaFmt c0 c1 0 = rgb565 c0 ∧ palette3 alphaFmt c0 c1 1 = rgb565 c1 ∧
      RunsFromTo (f (rgb565 c0)) (f (rgb565 c1)) [f (palette3 alphaFmt c0 c1 2)]) ∧
  (∀ e0 e1, e0 < 256 → e1 < 256 → ramp8 e0 e1 0 = e0 ∧ ramp8 e0 e1 1 = e1 ∧
    (e0 > e1 → RunsFromTo e0 e1 ([2, 3, 4, 5, 6, 7].map fun i => (ramp8 e0 e1 i : Int))) ∧
    (e0 ≤ e1 → RunsFromTo e0 e1 ([2, 3, 4, 5].map fun i => (ramp8 e0 e1 i : Int)) ∧
      ramp8 e0 e1 6 = 0 ∧ ramp8 e0 e1 7 = 255))

/-! BC4, BC5 -/

/-- The four BC4 and BC5 requests, from the block's bytes, under either setting of `P_SNORM_CLAMP`
(44_bc4_bc5 R210 to R216). -/
def Obligations.Bc4AndBc5RequestsFromTheirBytes : Prop :=
  ∀ d s, Delivers (.bc4Unorm d) s (pixels fun p => ⟨laneZ (rampM s.params false d 0 p), 0, 0, 0⟩) ∧
    Delivers (.bc4Snorm d) s (pixels fun p => ⟨laneZ (rampM s.params true d 0 p), 0, 0, 0⟩) ∧
    Delivers (.bc5Unorm d) s
      (pixels fun p => ⟨laneZ (rampM s.params false d 0 p), laneZ (rampM s.params false d 8 p), 0, 0⟩) ∧
    Delivers (.bc5Snorm d) s
      (pixels fun p => ⟨laneZ (rampM s.params true d 0 p), laneZ (rampM s.params true d 8 p), 0, 0⟩)

/-- On the same first half, the alpha lane of BC3 is the BC4 lane divided by 35 (44_bc4_bc5 R212). -/
def Obligations.Bc3AlphaIsBc4Over35 : Prop :=
  ∀ d s, ∃ t t', exec (.bc3Unorm d) s = .next t ∧ exec (.bc4Unorm d) s = .next t' ∧
    ∀ p : Fin 16, t.px[p].c3.toNat = t'.px[p].c0.toNat / 35

/-- Each channel's outputs depend on its own eight bytes, and the interpolated entries stand at equal spacing on the line from
`35*e0` to `35*e1` (44_bc4_bc5 R217). -/
def Obligations.RampChannelsAreIndependentAndExact : Prop :=
  (∀ d d' s, ∃ t t', exec (.bc5Unorm d) s = .next t ∧ exec (.bc5Unorm d') s = .next t' ∧
    (SameBytes d d' 0 8 → ∀ p : Fin 16, t.px[p].c0 = t'.px[p].c0) ∧
    (SameBytes d d' 8 16 → ∀ p : Fin 16, t.px[p].c1 = t'.px[p].c1)) ∧
  (∀ d d' s, ∃ t t', exec (.bc5Snorm d) s = .next t ∧ exec (.bc5Snorm d') s = .next t' ∧
    (SameBytes d d' 0 8 → ∀ p : Fin 16, t.px[p].c0 = t'.px[p].c0) ∧
    (SameBytes d d' 8 16 → ∀ p : Fin 16, t.px[p].c1 = t'.px[p].c1)) ∧
  (∀ (signed : Bool) (cmp0 cmp1 e0 e1 : Int), cmp1 < cmp0 →
    let r := ramp35Entry signed cmp0 cmp1 e0 e1
    r 0 = 35 * e0 ∧ r 1 = 35 * e1 ∧ r 2 - r 0 = 5 * (e1 - e0) ∧ r 1 - r 7 = 5 * (e1 - e0) ∧
    (∀ i ∈ [2, 3, 4, 5, 6], r (i + 1) - r i = 5 * (e1 - e0)) ∧
    RunsFromTo (35 * e0) (35 * e1) ([2, 3, 4, 5, 6, 7].map r)) ∧
  (∀ (signed : Bool) (cmp0 cmp1 e0 e1 : Int), cmp0 ≤ cmp1 →
    let r := ramp35Entry signed cmp0 cmp1 e0 e1
    r 0 = 35 * e0 ∧ r 1 = 35 * e1 ∧ r 2 - r 0 = 7 * (e1 - e0) ∧ r 1 - r 5 = 7 * (e1 - e0) ∧
    (∀ i ∈ [2, 3, 4], r (i + 1) - r i = 7 * (e1 - e0)) ∧
    RunsFromTo (35 * e0) (35 * e1) ([2, 3, 4, 5].map r))

/-! The tables and helpers of BC6H and BC7 -/

/-- The checks a model should run on its tables: 45_shared_tables R239 (a), (b), (c) and the example of (e), the weights of
R235, and the symmetry of the EAC modifiers, 42_eac R161. The numbers themselves are unaudited (log entry 10). -/
def Obligations.TablesPassTheirChecks : Prop :=
  let T := Config.Tables.printed
  (∀ part < 64, subset T 2 part 0 = 0 ∧ subset T 3 part 0 = 0 ∧ subset T 2 part (part2 T part).anchor = 1 ∧
    subset T 3 part (part3 T part).anchor1 = 1 ∧ subset T 3 part (part3 T part).anchor2 = 2 ∧
    (part2 T part).anchor < 16 ∧ (part3 T part).anchor1 < 16 ∧ (part3 T part).anchor2 < 16) ∧
  (T.p2.toList.map Config.Part2.mask).Nodup ∧
  (T.p3.toList.map fun r => (r.mask1, r.mask2)).Nodup ∧
  (∀ r ∈ T.p3.toList, r.mask1 &&& r.mask2 = 0) ∧
  (part2 T 0).anchor = 15 ∧ subset T 2 0 2 = 1 ∧ subset T 2 0 3 = 1 ∧
  (∀ n ∈ [2, 3, 4], weight T n 0 = 0 ∧ weight T n (2 ^ n - 1) = 64 ∧
    ∀ i < 2 ^ n, weight T n i + weight T n (2 ^ n - 1 - i) = 64) ∧
  (∀ row ∈ T.eacMod.toList, ∀ i < 4, row.getD (i + 4) 0 = -row.getD i 0 - 1)

/-- `interp` is the rounded weighted sum, gives its ends exactly and lies between them, for all integers
(45_shared_tables R236). -/
def Obligations.InterpolationStaysBetweenItsEnds : Prop :=
  ∀ a b : Int, interp a b 0 = a ∧ interp a b 64 = b ∧
    ∀ w : Nat, w ≤ 64 → interp a b w = Int.fdiv (a * (64 - w) + b * w + 32) 64 ∧
      min a b ≤ interp a b w ∧ interp a b w ≤ max a b

/-- In every mode, and for every partition number its field can hold, the last index stream ends exactly at the end of the
block, whatever the block holds (45_shared_tables R238), with the printed tables. -/
def Obligations.IndexStreamsEndWithTheBlock : Prop :=
  let T := Config.Tables.printed
  (∀ m ∈ T.bc6hModes.toList, ∀ part < 32, ∀ b, ∃ idx, idx.length = 16 ∧
    indexStream T b (bc6hStreamStart m) m.n m.ns (if m.ns = 2 then part else 0) = some (idx, 128) ∧
    (m.ns = 2 → m.n = 3 ∧ bc6hStreamStart m = 82) ∧ (m.ns ≠ 2 → m.ns = 1 ∧ m.n = 4 ∧ bc6hStreamStart m = 65)) ∧
  (∀ (m : Nat) c, T.bc7Modes[m]? = some c → ∀ part < 2 ^ c.pb, ∀ b, ∃ idx1 e1 idx2, idx1.length = 16 ∧
    indexStream T b (streamAt m c) c.n1 c.ns part = some (idx1, e1) ∧ bc7SecondStream T b c e1 = some (idx2, 128) ∧
    (c.n2 = 0 → e1 = 128) ∧ (c.n2 ≠ 0 → (m = 4 ∨ m = 5) ∧ c.ns = 1 ∧ idx2.length = 16))

/-! BC6H -/

/-- Mode selection of BC6H on every first byte (46_bc6h R250; where the next field starts is Bc6hLayoutsCoverTheirHeaders): two bits when bit 1 is 0, else five, four patterns reserved. -/
def Obligations.Bc6hModeOfTheFirstByte : Prop :=
  ∀ b < 256,
    (b % 4 = 0 → bc6hModeNumber Config.Tables.printed b = some 0) ∧ (b % 4 = 1 → bc6hModeNumber Config.Tables.printed b = some 1) ∧
    (b % 32 ∈ [0x13, 0x17, 0x1B, 0x1F] → bc6hModeNumber Config.Tables.printed b = none) ∧
    ∀ k < 8, (b % 32 = 4 * k + 2 → bc6hModeNumber Config.Tables.printed b = some (k + 2)) ∧
      (k < 4 → b % 32 = 4 * k + 3 → bc6hModeNumber Config.Tables.printed b = some (k + 10))

/-- Each BC6H layout names every header bit between the mode field and the index bits exactly once, and gives every field exactly
its declared width, every bit of it once (46_bc6h R253). Every bit of every field stands where the tables of R254 have it, which
`bc6hPositions` transcribes a second time, field by field, so also where the cross-check of R254 has it; and a header field is read
from its block bits: bit `i` of its value is the block bit that the layout names as bit `i`. -/
def Obligations.Bc6hLayoutsCoverTheirHeaders : Prop :=
  bc6hPositions.length = 14 ∧
  (∀ m < 14, ∀ md ∈ Config.bc6hModes[m]?, ∀ q ∈ bc6hPositions[m]?, ∀ (f : Config.HeaderField) (k i : Nat),
    fieldBitAt md k = some (f, i) ↔ (q.bitsOf f)[i]? = some k) ∧
  ∀ m < 14, ∀ md ∈ Config.bc6hModes[m]?,
    (∀ k, (if m < 2 then 2 else 5) ≤ k → k < bc6hStreamStart md →
      (md.cells.filter fun c => c.lo ≤ k ∧ k ≤ c.hi).length = 1) ∧
    (∀ c ∈ md.cells, (if m < 2 then 2 else 5) ≤ c.lo ∧ c.lo ≤ c.hi ∧ c.hi < bc6hStreamStart md ∧
      c.hi - c.lo = max c.a c.b - min c.a c.b) ∧
    (∀ e < 2 * md.ns, ∀ ch ∈ [Channel.r, .g, .b], ∀ k < 16,
      (md.cells.filter fun c => c.field = .ep e ch ∧ min c.a c.b ≤ k ∧ k ≤ max c.a c.b).length =
        if k < (if e = 0 then md.epBits else dBits md ch) then 1 else 0) ∧
    (∀ k < 8, (md.cells.filter fun c => c.field = .part ∧ min c.a c.b ≤ k ∧ k ≤ max c.a c.b).length =
      if md.ns = 2 ∧ k < 5 then 1 else 0) ∧
    (md.ns = 2 ↔ m < 10) ∧
    (m < 10 → (∀ i < 4, fieldBitAt md (41 + i) = some (.ep 2 .g, i) ∧ fieldBitAt md (51 + i) = some (.ep 3 .g, i) ∧
        fieldBitAt md (61 + i) = some (.ep 2 .b, i)) ∧
      (∀ i < 5, fieldBitAt md (77 + i) = some (.part, i)) ∧
      fieldBitAt md 35 = some (.ep 1 .r, 0) ∧ fieldBitAt md 45 = some (.ep 1 .g, 0) ∧ fieldBitAt md 55 = some (.ep 1 .b, 0) ∧
      fieldBitAt md 65 = some (.ep 2 .r, 0) ∧ fieldBitAt md 71 = some (.ep 3 .r, 0)) ∧
    (2 ≤ m → fieldBitAt md 5 = some (.ep 0 .r, 0) ∧ fieldBitAt md 15 = some (.ep 0 .g, 0) ∧
      fieldBitAt md 25 = some (.ep 0 .b, 0)) ∧
    (m = 12 → ∀ j < 2, fieldBitAt md (43 + j) = some (.ep 0 .r, 11 - j) ∧ fieldBitAt md (53 + j) = some (.ep 0 .g, 11 - j) ∧
      fieldBitAt md (63 + j) = some (.ep 0 .b, 11 - j)) ∧
    (m = 13 → ∀ j < 6, fieldBitAt md (39 + j) = some (.ep 0 .r, 15 - j) ∧ fieldBitAt md (49 + j) = some (.ep 0 .g, 15 - j) ∧
      fieldBitAt md (59 + j) = some (.ep 0 .b, 15 - j)) ∧
    (∀ (b : Word128) (f : Config.HeaderField) (v k i : Nat), headerField b md f = some v → fieldBitAt md k = some (f, i) →
      v.testBit i = b.getLsbD k)

/-- The four reserved patterns deliver black, and the step completes normally (46_bc6h R252), with the printed table of the mode
patterns. -/
def Obligations.Bc6hReservedModesAreBlack : Prop :=
  ∀ d s, UsesPrintedTables s → byte d 0 % 32 ∈ [0x13, 0x17, 0x1B, 0x1F] →
    Delivers (.bc6hUfloat d) s (pixels fun _ => ⟨0, 0, 0, 0⟩) ∧ Delivers (.bc6hSfloat d) s (pixels fun _ => ⟨0, 0, 0, 0⟩)

/-- The two BC6H requests in every mode that is not reserved: the raw fields have their declared widths, and every lane is the
scaled interpolation of the unquantised endpoints at the index of the pixel, which stands at its place in the block
(46_bc6h R255 to R265), with the printed tables. Which block bit is which bit of a field is Bc6hLayoutsCoverTheirHeaders. -/
def Obligations.Bc6hRequestsFromTheirFields : Prop :=
  let T := Config.Tables.printed
  ∀ (d : Block) (s : State) (m : Config.Bc6hMode), UsesPrintedTables s →
    bc6hMode T (byte d 0) = some m →
    ∃ raw part,
      (∀ i < 2 * m.ns, ∀ c, headerField (b128 d) m (.ep i c) = some (raw i c) ∧
        raw i c < 2 ^ (if i = 0 then m.epBits else dBits m c)) ∧
      headerField (b128 d) m .part = some part ∧ part < 32 ∧ (m.ns = 1 → part = 0) ∧
      Delivers (.bc6hUfloat d) s (pixels fun p =>
        ⟨bc6hLane T false m raw part d p .r, bc6hLane T false m raw part d p .g, bc6hLane T false m raw part d p .b, 0⟩) ∧
      Delivers (.bc6hSfloat d) s (pixels fun p =>
        ⟨bc6hLane T true m raw part d p .r, bc6hLane T true m raw part d p .g, bc6hLane T true m raw part d p .b, 0⟩)

/-- The working ranges of unquantisation and of the output scaling (46_bc6h R258, R259, R262, R263). -/
def Obligations.Bc6hWorkingRanges : Prop :=
  (∀ m ∈ Config.bc6hModes.toList, ∀ x : Int, 0 ≤ x → x < 2 ^ m.epBits → 0 ≤ unqU x m.epBits ∧ unqU x m.epBits ≤ 65535) ∧
  (∀ m ∈ Config.bc6hModes.toList, ∀ x : Int, -2 ^ (m.epBits - 1) ≤ x → x < 2 ^ (m.epBits - 1) →
    -32768 ≤ unqS x m.epBits ∧ unqS x m.epBits ≤ 32767 ∧ (m.epBits < 16 → -32767 ≤ unqS x m.epBits)) ∧
  (∀ v : Int, 0 ≤ v → v ≤ 65535 → finU v ≤ 0x7BFF) ∧
  (∀ v : Int, 0 ≤ v → v ≤ 32767 → finS v ≤ 0x7BFF) ∧
  (∀ v : Int, -32767 ≤ v → v < -1 → 0x8001 ≤ finS v ∧ finS v ≤ 0xFBFF) ∧
  finS (-1) = 0 ∧ finS (-32768) = 0xFC00

/-! BC7 -/

/-- A first byte of 0 delivers transparent black, whatever the other bytes (47_bc7 R291). -/
def Obligations.Bc7InvalidBlocksAreTransparent : Prop :=
  ∀ d s, byte d 0 = 0 →
    Delivers (.bc7Unorm d) s (pixels fun _ => ⟨0, 0, 0, 0⟩) ∧ Delivers (.bc7Srgb d) s (pixels fun _ => ⟨0, 0, 0, 0⟩)

/-- The positions the model computes for the fields of each BC7 mode are those of the printed table, and every mode uses up 128
bits (47_bc7 R292, R293). -/
def Obligations.Bc7FieldPositions : Prop :=
  bc7Positions.length = 8 ∧
  ∀ m < 8, ∀ c ∈ Config.bc7Modes[m]?, ∀ q ∈ bc7Positions[m]?,
    (c.pb ≠ 0 → partAt m = q.part) ∧ (c.rot ≠ 0 → rotAt m c = q.rot) ∧ (c.isel ≠ 0 → iselAt m c = q.isel) ∧
    colourAt m c 0 0 = q.r ∧ colourAt m c 1 0 = q.g ∧ colourAt m c 2 0 = q.b ∧
    (c.ab ≠ 0 → alphaAt m c 0 = q.a) ∧ (c.p ≠ .none → pAt m c 0 = q.p) ∧ streamAt m c = q.stream1 ∧
    (c.n2 ≠ 0 → q.stream1 + (16 * c.n1 - 1) = q.stream2) ∧
    (m + 1) + c.pb + c.rot + c.isel + 2 * c.ns * (3 * c.cb + c.ab) + pCount c + (16 * c.n1 - c.ns)
      + (if c.n2 = 0 then 0 else 16 * c.n2 - 1) = 128

/-- The two BC7 requests in each of the eight modes: endpoints, P bits, indices, rotation and index selection read at the printed
positions of the block (47_bc7 R290, R292 to R304), with the printed tables. -/
def Obligations.Bc7RequestsFromTheirFields : Prop :=
  ∀ (d : Block) (s : State) (m : Nat) (c : Config.Bc7Mode) (q : Bc7Positions), UsesPrintedTables s →
    Config.bc7Modes[m]? = some c → bc7Positions[m]? = some q → Bc7InMode d m →
    Delivers (.bc7Unorm d) s (pixels (bc7PixelOf s.params.tables d c q)) ∧ Delivers (.bc7Srgb d) s (pixels (bc7PixelOf s.params.tables d c q))

/-- In modes 0 to 3 every pixel is opaque, and in every mode the four lanes are at most 255 (47_bc7 R301, R309 (d)), with the printed
tables. -/
def Obligations.Bc7OpaqueModes : Prop :=
  ∀ d s, UsesPrintedTables s → ∃ t, exec (.bc7Unorm d) s = .next t ∧
    (∀ p : Fin 16, t.px[p].c0.toNat ≤ 255 ∧ t.px[p].c1.toNat ≤ 255 ∧ t.px[p].c2.toNat ≤ 255 ∧ t.px[p].c3.toNat ≤ 255) ∧
    ((∃ m < 4, Bc7InMode d m) → ∀ p : Fin 16, t.px[p].c3 = 255)

/-! sRGB -/

/-- The eight sRGB-named requests write the lanes of their linear twins, bit for bit, and `FMT` alone differs (41_etc1_etc2 R137,
R139, R141; 43_bc1_bc2_bc3 R187, R189, R192, R196; 47_bc7 R308). -/
def Obligations.SrgbRequestsEqualTheirTwins : Prop :=
  ∀ (d : Block) (s : State) (i j : Instr),
    (i, j) ∈ [(.etc2Rgb8 d, .etc2Srgb8 d), (.etc2Rgb8Pta1 d, .etc2Srgb8Pta1 d), (.etc2EacRgba8 d, .etc2EacSrgb8A8 d),
      (.bc1RgbUnorm d, .bc1RgbSrgb d), (.bc1RgbaUnorm d, .bc1RgbaSrgb d), (.bc2Unorm d, .bc2Srgb d),
      (.bc3Unorm d, .bc3Srgb d), (.bc7Unorm d, .bc7Srgb d)] → Answerable s i.code →
    ∃ t, exec i s = .next t ∧ t.valid = true ∧ exec j s = .next { t with fmt := j.code } ∧ j.code = i.code + 1

/-- The ranges of the intermediate values of ETC, EAC and BC7, before any clamp or shift (40_bitfield_extractor R115), with the
printed tables. -/
def Obligations.IntermediateValuesStayInRange : Prop :=
  let T := Config.Tables.printed
  (∀ P c mode sb i ch, -183 ≤ (etcBase P c mode sb ch : Int) + etcModifier T c sb i ∧
    (etcBase P c mode sb ch : Int) + etcModifier T c sb i ≤ 438) ∧
  (∀ c ch, ∀ x : Nat, x < 4 → ∀ y : Nat, y < 4 →
    let n : Int := x * ((planarH c ch : Int) - planarO c ch) + y * ((planarV c ch : Int) - planarO c ch) + 4 * planarO c ch + 2
    n ≤ 1532 ∧ -508 ≤ n ∧ -127 ≤ shr n 2 ∧ shr n 2 ≤ 383) ∧
  (∀ e q, -225 ≤ (eacBase e : Int) + eacMul e * eacModifier T e q ∧ (eacBase e : Int) + eacMul e * eacModifier T e q ≤ 465 ∧
    -1796 ≤ (eacBase e : Int) * 8 + 4 + eacMul e * eacModifier T e q * 8 ∧
    (eacBase e : Int) * 8 + 4 + eacMul e * eacModifier T e q * 8 ≤ 3724 ∧
    -2816 ≤ eacSignedBase e * 8 + eacMul e * eacModifier T e q * 8 ∧
    eacSignedBase e * 8 + eacMul e * eacModifier T e q * 8 ≤ 2696) ∧
  (∀ b m c e v, bc7Endpoint b m c e = some v → v.r ≤ 255 ∧ v.g ≤ 255 ∧ v.b ≤ 255 ∧ v.a ≤ 255) ∧
  (∀ a b w : Nat, a ≤ 255 → b ≤ 255 → w ≤ 64 →
    32 ≤ (a : Int) * (64 - w) + b * w + 32 ∧ (a : Int) * (64 - w) + b * w + 32 ≤ 16352)

/-! The requester: the tiler, several instances -/

/-- A tiler whose preconditions hold completes: `ERR` is as it was, and after at least one block `VALID` is 1; the destination
keeps its layout, with the bytes that has per pixel, its extent and its size (48_tiler_contract R339, 20_memory R42). That the
tiler is a procedure beside the machine, so that `todo` and `reads` stay, is the model's choice, log entry 14 (DESIGN CHOICE). -/
def Obligations.TilerCompletes : Prop :=
  ∀ pad tex s dst, TilerReady tex dst → Answerable s tex.fmt → ∃ t dst', decompress pad tex s dst = .ok (t, dst') ∧
    t.err = s.err ∧ t.params = s.params ∧ t.todo = s.todo ∧ t.reads = s.reads ∧
    (walk tex.extent ≠ [] → t.valid = true) ∧
    dst'.layout = dst.layout ∧ dst'.texelsFit = true ∧ dst'.extent = dst.extent ∧ dst'.texels.length = dst.texels.length

/-- Every pixel of the finished image is the converted lane of its block's own response, decoded from the block's bytes of the
source with zeros above them: whatever the bytes above a short block were, whatever the image held before, and with no effect
of the discarded pixels of an edge block (48_tiler_contract R330, R333 to R336). What bytes `convert` makes of a response is
ConversionStoresTheLanes. The tiler as a procedure and its `pad` are log entry 14, the free bytes of codes 19 to 22 in a
requester's own layout log entry 13 (both DESIGN CHOICE). -/
def Obligations.TilerWritesEveryPixel : Prop :=
  ∀ pad tex s dst, TilerReady tex dst → Answerable s tex.fmt → ∃ t dst', decompress pad tex s dst = .ok (t, dst') ∧
    ∀ x y z, x < tex.extent.w → y < tex.extent.h → z < tex.extent.d → ∃ px : Pixels,
      decodeFn s.params tex.fmt
        (blockData (fun _ _ => 0) tex (blockOf tex.extent x y z)) = some px ∧
      dst'.texels[(z * tex.extent.h + y) * tex.extent.w + x]? =
        some (convert dst.layout px[4 * (y % 4) + x % 4])

/-- The bytes of one destination pixel (48_tiler_contract R336, 20_memory R46): three low bytes for the RGB codes, four for the RGBA
codes, and 16-bit lanes low byte first for EAC, BC6H and, in the spec's lane format, BC4 and BC5. Every layout but a requester's own
(log entry 13, DESIGN CHOICE) has the length the layout gives, and exactly the legal codes have a layout. -/
def Obligations.ConversionStoresTheLanes : Prop :=
  (∀ fmt, canonicalLayouts fmt ≠ [] ↔ legalCode fmt = true) ∧
  ∀ (fmt : FmtCode) (layout : Layout) (v : Pixel), layout ∈ canonicalLayouts fmt →
    let low (l : Lane) : Byte := BitVec.ofNat 8 (l.toNat % 256)
    (fmt ∈ [(0 : FmtCode), 5, 6] → convert layout v = [low v.c0, low v.c1, low v.c2]) ∧
    (fmt ∈ [(7 : FmtCode), 8, 9, 10, 11, 12, 13, 14, 15, 16, 17, 18, 25, 26] →
      convert layout v = [low v.c0, low v.c1, low v.c2, low v.c3]) ∧
    (fmt ∈ [(1 : FmtCode), 2] → convert layout v = lowHigh v.c0) ∧
    (fmt ∈ [(3 : FmtCode), 4] → convert layout v = lowHigh v.c0 ++ lowHigh v.c1) ∧
    (fmt ∈ [(23 : FmtCode), 24] → convert layout v = lowHigh v.c0 ++ lowHigh v.c1 ++ lowHigh v.c2) ∧
    (fmt ∈ [(19 : FmtCode), 20] → layout = .requesters fmt ∨ convert layout v = lowHigh v.c0) ∧
    (fmt ∈ [(21 : FmtCode), 22] → layout = .requesters fmt ∨ convert layout v = lowHigh v.c0 ++ lowHigh v.c1) ∧
    ∀ n, layout.texelBytes = some n → (convert layout v).length = n

/-- A tiler whose preconditions fail stops before any step (48_tiler_contract R338). That it then answers a fault of the tiler and
no state is the model's choice, log entry 14 (DESIGN CHOICE). -/
def Obligations.TilerStopsOnAFailedPrecondition : Prop :=
  ∀ pad tex s dst, ¬ TilerReady tex dst →
    ∃ f ∈ [TilerFault.format, .layout, .extent, .sourceLength], decompress pad tex s dst = .error f

/-- Several instances, each working through its share of the blocks, fill the destination as one instance does alone: whatever
blocks each has, whatever its registers hold, whatever the order in which their `Decode` steps and copies interleave, and whatever
stands above short blocks (20_memory R51 (3), 48_tiler_contract R332). The team and its events are log entry 19 (DESIGN CHOICE). -/
def Obligations.AnyInterleavingFillsTheDestination : Prop :=
  ∀ (pad pad' : Nat → Nat → Byte) (tex : Texture) (s : State) (dst : Image) (shares : List (State × List BlockPos))
    (schedule : List Nat),
    TilerReady tex dst → Answerable s tex.fmt → (∀ w ∈ shares, w.1.params = s.params) →
    (shares.flatMap fun w => w.2).Perm (walk tex.extent) →
    (∀ k, schedule.count k = ((shares[k]?.map fun w => w.2.length).getD 0) * 17) →
    ∃ tm t dst', Team.actAll pad tex schedule (Team.start shares dst) = some tm ∧ (∀ w ∈ tm.workers, w.work = []) ∧
      decompress pad' tex s dst = .ok (t, dst') ∧ tm.dst = dst'

/-- Instances share nothing: after any interleaving of their steps each has the state it would have had alone, having taken
the same number of steps (10_state R32). That a platform is a list of instances and that a list of their numbers picks the next step
is the model's choice, log entry 11 (DESIGN CHOICE). -/
def Obligations.InstancesShareNothing : Prop :=
  ∀ ks pl pl', Platform.actAll ks pl = some pl' → pl'.units.length = pl.units.length ∧
    ∀ (k : Nat) (s : State), pl.units[k]? = some s → ∃ t : State, pl'.units[k]? = some t ∧
      Sys2Proof.core.run (ks.count k) s = .next t
end

