-- ==== Sys2Proof/Laws/Operands.lean ====
section
/-! SUPPORT. What the extractor and the widenings can answer. -/

namespace Sys2Proof.Laws

open Sys2Proof Sys2Proof.Machine

/-- A little-endian word as a sum: nothing is lost. -/
theorem le64_toNat (b0 b1 b2 b3 b4 b5 b6 b7 : Byte) :
    (le64 b0 b1 b2 b3 b4 b5 b6 b7).toNat = b0.toNat + b1.toNat * 2 ^ 8 + b2.toNat * 2 ^ 16 + b3.toNat * 2 ^ 24
      + b4.toNat * 2 ^ 32 + b5.toNat * 2 ^ 40 + b6.toNat * 2 ^ 48 + b7.toNat * 2 ^ 56 := by
  have h0 := b0.isLt; have h1 := b1.isLt; have h2 := b2.isLt; have h3 := b3.isLt
  have h4 := b4.isLt; have h5 := b5.isLt; have h6 := b6.isLt; have h7 := b7.isLt
  unfold le64
  rw [BitVec.toNat_ofNat, Nat.mod_eq_of_lt]
  omega

/-- A big-endian word as a sum. -/
theorem be64_toNat (b0 b1 b2 b3 b4 b5 b6 b7 : Byte) :
    (be64 b0 b1 b2 b3 b4 b5 b6 b7).toNat = b7.toNat + b6.toNat * 2 ^ 8 + b5.toNat * 2 ^ 16 + b4.toNat * 2 ^ 24
      + b3.toNat * 2 ^ 32 + b2.toNat * 2 ^ 40 + b1.toNat * 2 ^ 48 + b0.toNat * 2 ^ 56 :=
  le64_toNat b7 b6 b5 b4 b3 b2 b1 b0

/-- The joined pair as a number. -/
theorem join128_toNat (l h : Word64) : (join128 l h).toNat = l.toNat + h.toNat * 2 ^ 64 := by
  have hl := l.isLt; have hh := h.isLt
  unfold join128
  rw [BitVec.toNat_ofNat, Nat.mod_eq_of_lt]
  omega

/-- A slice fits its width. -/
theorem slice_lt (v lo hi : Nat) : slice v lo hi < 2 ^ (hi - lo + 1) := Nat.mod_lt _ (Nat.two_pow_pos _)

/-- A field fits its width. -/
theorem bits_lt (w : Word64) (lo hi : Nat) (h : lo ≤ hi ∧ hi ≤ 63 ∧ hi - lo + 1 ≤ 32) : bits w lo hi h < 2 ^ (hi - lo + 1) :=
  slice_lt _ _ _

/-- A single bit is 0 or 1. -/
theorem bit_lt (w : Word64) (n : Nat) (h : n ≤ 63) : bit w n h < 2 := Nat.mod_lt _ (by decide)

/-- A reversal has no more bits than its argument. -/
theorem revBits_lt (n v : Nat) : revBits n v < 2 ^ n := by
  induction n generalizing v with
  | zero => simp [revBits]
  | succ n ih =>
    have h := ih (v / 2)
    have h2 : v % 2 < 2 := Nat.mod_lt _ (by decide)
    have : v % 2 * 2 ^ n ≤ 1 * 2 ^ n := Nat.mul_le_mul_right _ (by omega)
    rw [revBits, Nat.pow_succ]
    omega

/-- Inside the block the extraction answers, and its result fits the width. -/
theorem bits128_some (b : Word128) {i j : Nat} (hi : i ≤ 127) (hj : j ≤ 127) :
    ∃ v, bits128 b i j = some v ∧ v < 2 ^ (max i j - min i j + 1) := by
  unfold bits128
  rw [if_pos ⟨hi, hj⟩]
  split
  · rename_i h
    exact ⟨_, rfl, by rw [max_eq_right h, min_eq_left h]; exact slice_lt _ _ _⟩
  · rename_i h
    have h' : j ≤ i := by omega
    exact ⟨_, rfl, by rw [max_eq_left h', min_eq_right h']; exact revBits_lt _ _⟩

/-- The forward extraction is the slice. -/
theorem bits128_forward (b : Word128) {i j : Nat} (h : i ≤ j) (hj : j ≤ 127) :
    bits128 b i j = some (slice b.toNat i j) := by
  unfold bits128
  rw [if_pos ⟨by omega, hj⟩, if_pos h]

/-- Pixel `p` of a block built pixel by pixel. -/
@[simp] theorem pixels_getElem (f : Fin 16 → Pixel) (p : Fin 16) : (pixels f)[p] = f p := by
  simp [pixels]

/-- A clamped channel value is a byte. -/
theorem clamp8_le (v : Int) : clamp8 v ≤ 255 := by
  unfold clamp8 clamp
  split
  · decide
  · split <;> omega

/-- A clamped value lies between its bounds. -/
theorem clamp_bounds (v : Int) {a b : Int} (h : a ≤ b) : a ≤ clamp v a b ∧ clamp v a b ≤ b := by
  unfold clamp
  split
  · exact ⟨le_refl _, h⟩
  · split <;> constructor <;> omega

/-- Within its bounds clamping does nothing. -/
theorem clamp_of_mem {v a b : Int} (h : a ≤ v) (h' : v ≤ b) : clamp v a b = v := by
  unfold clamp
  rw [if_neg (by omega), if_neg (by omega)]

theorem ext4_le {v : Nat} (h : v < 16) : ext4 v ≤ 255 := by unfold ext4; omega
theorem ext5_le {v : Nat} (h : v < 32) : ext5 v ≤ 255 := by unfold ext5; omega
theorem ext6_le {v : Nat} (h : v < 64) : ext6 v ≤ 255 := by unfold ext6; omega
theorem ext7_le {v : Nat} (h : v < 128) : ext7 v ≤ 255 := by unfold ext7; omega
theorem rep8_le (v n : Nat) : rep8 v n ≤ 255 := by unfold rep8; omega

/-- A small number in a lane reads back as itself. -/
theorem laneN_toNat {v : Nat} (h : v < 65536) : (laneN v).toNat = v := by
  unfold laneN
  rw [BitVec.toNat_ofNat, Nat.mod_eq_of_lt h]

/-- A small integer in a lane reads back as itself, as two's complement. -/
theorem laneZ_toInt {v : Int} (h : -32768 ≤ v) (h' : v ≤ 32767) : (laneZ v).toInt = v := by
  unfold laneZ
  rw [BitVec.toInt_ofInt]
  exact Int.bmod_eq_of_le (by omega) (by omega)

end Sys2Proof.Laws
end

