-- ==== Sys2Proof/Laws/Bptc.lean ====
section
/-! SUPPORT. What interpolation, the weights and the index streams can answer. -/

namespace Sys2Proof.Laws

open Sys2Proof Sys2Proof.Machine

/-- Every printed weight is at most 64. -/
theorem weight_le (n i : Nat) : weight Config.Tables.printed n i ≤ 64 := by
  unfold weight
  have h2 : ∀ w ∈ Config.tabW2.toList, w ≤ 64 := by decide
  have h3 : ∀ w ∈ Config.tabW3.toList, w ≤ 64 := by decide
  have h4 : ∀ w ∈ Config.tabW4.toList, w ≤ 64 := by decide
  have get : ∀ {k : Nat} (v : Vector Nat k), (∀ w ∈ v.toList, w ≤ 64) → v.getD i 0 ≤ 64 := by
    intro k v h
    unfold Vector.getD Array.getD
    split
    · exact h _ (by simp)
    · exact Nat.zero_le _
  split
  · exact get _ h2
  · exact get _ h3
  · exact get _ h4

/-- A subset number is below the number of subsets. -/
theorem subset_lt (T : Config.Tables) {ns : Nat} (h : 1 ≤ ns) (part p : Nat) : subset T ns part p < ns := by
  unfold subset
  split <;> (repeat' split) <;> omega

/-- An index stream whose fields all fit answers, and says where it ends. -/
theorem readIndices_some (T : Config.Tables) (b : Word128) (n ns part : Nat) (hn : 2 ≤ n) (ps : List Nat) (pos : Nat)
    (h : pos + (ps.map (indexWidth T n ns part)).sum ≤ 128) :
    ∃ l, readIndices T b n ns part ps pos = some (l, pos + (ps.map (indexWidth T n ns part)).sum) ∧ l.length = ps.length := by
  induction ps generalizing pos with
  | nil => exact ⟨[], rfl, rfl⟩
  | cons p ps ih =>
    have hw : 1 ≤ indexWidth T n ns part p := by
      unfold indexWidth
      split <;> omega
    simp only [List.map_cons, List.sum_cons] at h ⊢
    obtain ⟨v, hv, -⟩ := bits128_some b (i := pos) (j := pos + indexWidth T n ns part p - 1) (by omega) (by omega)
    obtain ⟨l, hl, hlen⟩ := ih (pos + indexWidth T n ns part p) (by omega)
    refine ⟨v :: l, ?_, by simp [hlen]⟩
    simp only [readIndices, hv, hl, Option.bind_eq_bind, Option.bind_some]
    rw [Nat.add_assoc]

end Sys2Proof.Laws
end

