-- ==== Sys2Proof/Laws/State.lean ====
section
/-! SUPPORT. One lemma per field per update of the state, each true by unfolding, so that no proof unfolds a record update. -/

namespace Sys2Proof.Laws

open Sys2Proof Sys2Proof.Machine

@[simp] theorem latch_fmt (s : State) (fmt : FmtCode) (d : Block) : (s.latch fmt d).fmt = fmt := rfl
@[simp] theorem latch_blk (s : State) (fmt : FmtCode) (d : Block) : (s.latch fmt d).blk = d := rfl
@[simp] theorem latch_px (s : State) (fmt : FmtCode) (d : Block) : (s.latch fmt d).px = s.px := rfl
@[simp] theorem latch_valid (s : State) (fmt : FmtCode) (d : Block) : (s.latch fmt d).valid = s.valid := rfl
@[simp] theorem latch_err (s : State) (fmt : FmtCode) (d : Block) : (s.latch fmt d).err = s.err := rfl
@[simp] theorem latch_params (s : State) (fmt : FmtCode) (d : Block) : (s.latch fmt d).params = s.params := rfl
@[simp] theorem latch_lost (s : State) (fmt : FmtCode) (d : Block) : (s.latch fmt d).lost = s.lost := rfl
@[simp] theorem latch_todo (s : State) (fmt : FmtCode) (d : Block) : (s.latch fmt d).todo = s.todo := rfl
@[simp] theorem latch_reads (s : State) (fmt : FmtCode) (d : Block) : (s.latch fmt d).reads = s.reads := rfl

@[simp] theorem statusDecoded_fmt (s : State) : (s.statusDecoded).fmt = s.fmt := rfl
@[simp] theorem statusDecoded_blk (s : State) : (s.statusDecoded).blk = s.blk := rfl
@[simp] theorem statusDecoded_px (s : State) : (s.statusDecoded).px = s.px := rfl
@[simp] theorem statusDecoded_valid (s : State) : (s.statusDecoded).valid = true := rfl
@[simp] theorem statusDecoded_err (s : State) : (s.statusDecoded).err = s.err := rfl
@[simp] theorem statusDecoded_params (s : State) : (s.statusDecoded).params = s.params := rfl
@[simp] theorem statusDecoded_lost (s : State) : (s.statusDecoded).lost = s.lost := rfl
@[simp] theorem statusDecoded_todo (s : State) : (s.statusDecoded).todo = s.todo := rfl
@[simp] theorem statusDecoded_reads (s : State) : (s.statusDecoded).reads = s.reads := rfl

@[simp] theorem statusIllegal_fmt (s : State) : (s.statusIllegal).fmt = s.fmt := rfl
@[simp] theorem statusIllegal_blk (s : State) : (s.statusIllegal).blk = s.blk := rfl
@[simp] theorem statusIllegal_px (s : State) : (s.statusIllegal).px = s.px := rfl
@[simp] theorem statusIllegal_valid (s : State) : (s.statusIllegal).valid = false := rfl
@[simp] theorem statusIllegal_err (s : State) : (s.statusIllegal).err = true := rfl
@[simp] theorem statusIllegal_params (s : State) : (s.statusIllegal).params = s.params := rfl
@[simp] theorem statusIllegal_lost (s : State) : (s.statusIllegal).lost = s.lost := rfl
@[simp] theorem statusIllegal_todo (s : State) : (s.statusIllegal).todo = s.todo := rfl
@[simp] theorem statusIllegal_reads (s : State) : (s.statusIllegal).reads = s.reads := rfl

@[simp] theorem statusReset_fmt (s : State) : (s.statusReset).fmt = s.fmt := rfl
@[simp] theorem statusReset_blk (s : State) : (s.statusReset).blk = s.blk := rfl
@[simp] theorem statusReset_px (s : State) : (s.statusReset).px = s.px := rfl
@[simp] theorem statusReset_valid (s : State) : (s.statusReset).valid = false := rfl
@[simp] theorem statusReset_err (s : State) : (s.statusReset).err = false := rfl
@[simp] theorem statusReset_params (s : State) : (s.statusReset).params = s.params := rfl
@[simp] theorem statusReset_lost (s : State) : (s.statusReset).lost = s.lost := rfl
@[simp] theorem statusReset_todo (s : State) : (s.statusReset).todo = s.todo := rfl
@[simp] theorem statusReset_reads (s : State) : (s.statusReset).reads = s.reads := rfl

@[simp] theorem deliver_fmt (s : State) (px : Pixels) : (s.deliver px).fmt = s.fmt := rfl
@[simp] theorem deliver_blk (s : State) (px : Pixels) : (s.deliver px).blk = s.blk := rfl
@[simp] theorem deliver_px (s : State) (px : Pixels) : (s.deliver px).px = px := rfl
@[simp] theorem deliver_valid (s : State) (px : Pixels) : (s.deliver px).valid = true := rfl
@[simp] theorem deliver_err (s : State) (px : Pixels) : (s.deliver px).err = s.err := rfl
@[simp] theorem deliver_params (s : State) (px : Pixels) : (s.deliver px).params = s.params := rfl
@[simp] theorem deliver_lost (s : State) (px : Pixels) : (s.deliver px).lost = s.lost := rfl
@[simp] theorem deliver_todo (s : State) (px : Pixels) : (s.deliver px).todo = s.todo := rfl
@[simp] theorem deliver_reads (s : State) (px : Pixels) : (s.deliver px).reads = s.reads := rfl

@[simp] theorem raiseIllegalFormat_fmt (s : State) (fmt : FmtCode) (d : Block) : (s.raiseIllegalFormat fmt d).fmt = fmt := rfl
@[simp] theorem raiseIllegalFormat_blk (s : State) (fmt : FmtCode) (d : Block) : (s.raiseIllegalFormat fmt d).blk = d := rfl
@[simp] theorem raiseIllegalFormat_px (s : State) (fmt : FmtCode) (d : Block) : (s.raiseIllegalFormat fmt d).px = lostPixels s.lost := rfl
@[simp] theorem raiseIllegalFormat_valid (s : State) (fmt : FmtCode) (d : Block) : (s.raiseIllegalFormat fmt d).valid = false := rfl
@[simp] theorem raiseIllegalFormat_err (s : State) (fmt : FmtCode) (d : Block) : (s.raiseIllegalFormat fmt d).err = true := rfl
@[simp] theorem raiseIllegalFormat_params (s : State) (fmt : FmtCode) (d : Block) : (s.raiseIllegalFormat fmt d).params = s.params := rfl
@[simp] theorem raiseIllegalFormat_lost (s : State) (fmt : FmtCode) (d : Block) : (s.raiseIllegalFormat fmt d).lost = s.lost + 1 := rfl
@[simp] theorem raiseIllegalFormat_todo (s : State) (fmt : FmtCode) (d : Block) : (s.raiseIllegalFormat fmt d).todo = s.todo := rfl
@[simp] theorem raiseIllegalFormat_reads (s : State) (fmt : FmtCode) (d : Block) : (s.raiseIllegalFormat fmt d).reads = s.reads := rfl

@[simp] theorem resetUnit_fmt (s : State) : (s.resetUnit).fmt = State.reset.fmt := rfl
@[simp] theorem resetUnit_blk (s : State) : (s.resetUnit).blk = State.reset.blk := rfl
@[simp] theorem resetUnit_px (s : State) : (s.resetUnit).px = State.reset.px := rfl
@[simp] theorem resetUnit_valid (s : State) : (s.resetUnit).valid = false := rfl
@[simp] theorem resetUnit_err (s : State) : (s.resetUnit).err = false := rfl
@[simp] theorem resetUnit_params (s : State) : (s.resetUnit).params = s.params := rfl
@[simp] theorem resetUnit_lost (s : State) : (s.resetUnit).lost = s.lost := rfl
@[simp] theorem resetUnit_todo (s : State) : (s.resetUnit).todo = s.todo := rfl
@[simp] theorem resetUnit_reads (s : State) : (s.resetUnit).reads = s.reads := rfl

@[simp] theorem record_fmt (s : State) (x : Reading) : (s.record x).fmt = s.fmt := rfl
@[simp] theorem record_blk (s : State) (x : Reading) : (s.record x).blk = s.blk := rfl
@[simp] theorem record_px (s : State) (x : Reading) : (s.record x).px = s.px := rfl
@[simp] theorem record_valid (s : State) (x : Reading) : (s.record x).valid = s.valid := rfl
@[simp] theorem record_err (s : State) (x : Reading) : (s.record x).err = s.err := rfl
@[simp] theorem record_params (s : State) (x : Reading) : (s.record x).params = s.params := rfl
@[simp] theorem record_lost (s : State) (x : Reading) : (s.record x).lost = s.lost := rfl
@[simp] theorem record_todo (s : State) (x : Reading) : (s.record x).todo = s.todo := rfl
@[simp] theorem record_reads (s : State) (x : Reading) : (s.record x).reads = x :: s.reads := rfl

@[simp] theorem withFetchWord_fmt (s : State) (nbits w : Nat) : (s.withFetchWord nbits w).fmt = s.fmt := rfl
@[simp] theorem withFetchWord_blk (s : State) (nbits w : Nat) : (s.withFetchWord nbits w).blk = s.blk := rfl
@[simp] theorem withFetchWord_px (s : State) (nbits w : Nat) : (s.withFetchWord nbits w).px = s.px := rfl
@[simp] theorem withFetchWord_valid (s : State) (nbits w : Nat) : (s.withFetchWord nbits w).valid = s.valid := rfl
@[simp] theorem withFetchWord_err (s : State) (nbits w : Nat) : (s.withFetchWord nbits w).err = s.err := rfl
@[simp] theorem withFetchWord_params (s : State) (nbits w : Nat) : (s.withFetchWord nbits w).params = s.params := rfl
@[simp] theorem withFetchWord_lost (s : State) (nbits w : Nat) : (s.withFetchWord nbits w).lost = s.lost := rfl
@[simp] theorem withFetchWord_todo (s : State) (nbits w : Nat) : (s.withFetchWord nbits w).todo = .decode (tableRequest nbits w) :: s.todo := rfl
@[simp] theorem withFetchWord_reads (s : State) (nbits w : Nat) : (s.withFetchWord nbits w).reads = s.reads := rfl

@[simp] theorem reset_valid : State.reset.valid = false := rfl
@[simp] theorem reset_err : State.reset.err = false := rfl
@[simp] theorem reset_todo : State.reset.todo = [] := rfl
@[simp] theorem reset_params : State.reset.params = Config.Params.default := rfl

end Sys2Proof.Laws
end

