-- ==== Sys2Proof/Laws/Ops.lean ====
section
/-! SUPPORT. What each shared operation can do, said once: proofs cite these and do not unfold the operation. -/

namespace Sys2Proof.Laws

open Sys2Proof Sys2Proof.Machine

/-- A legal step with a total decoder: the whole next state. -/
theorem runDecode_eq (fmt : FmtCode) (d : Block) (f : Block → Pixels) (s : State) :
    runDecode fmt d f s = .next { s with fmt := fmt, blk := d, px := f d, valid := true } := rfl

/-- If a checked legal step answers a next state, the decoder answered, and this is the whole of it. -/
theorem runDecodeChecked_next {fmt : FmtCode} {d : Block} {f : Block → Option Pixels} {s t : State}
    (h : runDecodeChecked fmt d f s = .next t) :
    ∃ px, f d = some px ∧ t = { s with fmt := fmt, blk := d, px := px, valid := true } := by
  have e : (s.latch fmt d).blk = d := rfl
  unfold runDecodeChecked at h
  rw [e] at h
  split at h
  · rename_i px hp
    exact ⟨px, hp, by injection h with h; exact h.symm⟩
  · cases h

/-- A checked legal step whose decoder answers. -/
theorem runDecodeChecked_eq {fmt : FmtCode} {d : Block} {f : Block → Option Pixels} {px : Pixels} (s : State)
    (h : f d = some px) :
    runDecodeChecked fmt d f s = .next { s with fmt := fmt, blk := d, px := px, valid := true } := by
  have e : (s.latch fmt d).blk = d := rfl
  unfold runDecodeChecked
  rw [e, h]
  rfl

/-- Taking the exception: the whole next state. -/
theorem raiseIllegalFormat_eq (s : State) (fmt : FmtCode) (d : Block) :
    s.raiseIllegalFormat fmt d =
      { s with fmt := fmt, blk := d, px := lostPixels s.lost, valid := false, err := true, lost := s.lost + 1 } := rfl

/-- The reset event: the whole next state. -/
theorem resetUnit_eq (s : State) :
    s.resetUnit = { s with fmt := State.reset.fmt, blk := State.reset.blk, px := State.reset.px, valid := false, err := false } :=
  rfl

/-- A read of `PX` answers exactly while `VALID` is 1. -/
theorem readPx_eq_some {s : State} {p : Fin 16} {v : Pixel} : s.readPx p = some v ↔ s.valid = true ∧ s.px[p] = v := by
  unfold State.readPx
  split <;> simp_all

/-- What one action can do, if it answers a next state. -/
theorem perform_next {a : Action} {s t : State} (h : perform a s = .next t) :
    (a = .reset ∧ t = s.resetUnit) ∨
    (∃ r, a = .decode r ∧ exec (decodeRequest r) s = .next t) ∨
    (∃ p, a = .readPx p ∧ s.valid = true ∧ t = { s with reads := .px p s.px[p] :: s.reads }) ∨
    (a = .readStatus ∧ t = { s with reads := .status s.valid s.err :: s.reads }) := by
  cases a with
  | reset => exact .inl ⟨rfl, by injection h with h; exact h.symm⟩
  | decode r => exact .inr (.inl ⟨r, rfl, h⟩)
  | readPx p =>
    simp only [perform] at h
    split at h
    · rename_i v hv
      obtain ⟨hs, rfl⟩ := readPx_eq_some.mp hv
      exact .inr (.inr (.inl ⟨p, rfl, hs, by injection h with h; exact h.symm⟩))
    · cases h
  | readStatus => exact .inr (.inr (.inr ⟨rfl, by injection h with h; exact h.symm⟩))

/-- What one step can do, if it answers a next state. -/
theorem step_next {s t : State} (h : step s = .next t) :
    (s.todo = [] ∧ t = s) ∨ (∃ a rest, s.todo = a :: rest ∧ perform a { s with todo := rest } = .next t) := by
  unfold step at h
  split at h
  · rename_i e
    exact .inl ⟨e, by injection h with h; exact h.symm⟩
  · rename_i a rest e
    exact .inr ⟨a, rest, e, h⟩

/-- A list of actions runs as its head and then its tail. -/
theorem performAll_cons {a : Action} {as : List Action} {s u : State} (h : performAll (a :: as) s = .next u) :
    ∃ t, perform a s = .next t ∧ performAll as t = .next u := by
  unfold performAll at h
  split at h
  · rename_i t ht
    exact ⟨t, ht, h⟩
  · cases h
  · cases h

/-- Running two lists one after the other. -/
theorem performAll_append {as bs : List Action} {s t : State} (h : performAll as s = .next t) :
    performAll (as ++ bs) s = performAll bs t := by
  induction as generalizing s with
  | nil => cases h; rfl
  | cons a as ih =>
    obtain ⟨u, hu, hr⟩ := performAll_cons h
    simp only [List.cons_append, performAll, hu]
    exact ih hr

end Sys2Proof.Laws
end

