-- ==== Sys2Proof/Laws/PerInstr.lean ====
section
/-! SUPPORT. The per-instruction family OpcodeField (30_encoding R60, R69): the low five bits of a request's word are the code of
its row, and a request decodes to the instruction it stands for. -/

namespace Sys2Proof.Laws.OpcodeField

open Sys2Proof

/-- The low five bits of the 133-bit word (`mask = 0x1F`) are the code, and the pair names the instruction. -/
def Statement (i : Instr) : Prop := requestToNat i.request &&& 0x1F = i.code.toNat ∧ decodeRequest i.request = i

/-- The five bits of any request's word. -/
theorem low_bits (r : Request) : requestToNat r &&& 0x1F = r.fmt.toNat := by
  have h := r.fmt.isLt
  have e : requestToNat r &&& 0x1F = requestToNat r % 32 := Nat.and_two_pow_sub_one_eq_mod _ 5
  rw [e]
  unfold requestToNat
  omega

theorem etc1Rgb8 (d : Block) : Statement (.etc1Rgb8 d) := ⟨low_bits _, rfl⟩
theorem eacR11 (d : Block) : Statement (.eacR11 d) := ⟨low_bits _, rfl⟩
theorem eacSignedR11 (d : Block) : Statement (.eacSignedR11 d) := ⟨low_bits _, rfl⟩
theorem eacRg11 (d : Block) : Statement (.eacRg11 d) := ⟨low_bits _, rfl⟩
theorem eacSignedRg11 (d : Block) : Statement (.eacSignedRg11 d) := ⟨low_bits _, rfl⟩
theorem etc2Rgb8 (d : Block) : Statement (.etc2Rgb8 d) := ⟨low_bits _, rfl⟩
theorem etc2Srgb8 (d : Block) : Statement (.etc2Srgb8 d) := ⟨low_bits _, rfl⟩
theorem etc2Rgb8Pta1 (d : Block) : Statement (.etc2Rgb8Pta1 d) := ⟨low_bits _, rfl⟩
theorem etc2Srgb8Pta1 (d : Block) : Statement (.etc2Srgb8Pta1 d) := ⟨low_bits _, rfl⟩
theorem etc2EacRgba8 (d : Block) : Statement (.etc2EacRgba8 d) := ⟨low_bits _, rfl⟩
theorem etc2EacSrgb8A8 (d : Block) : Statement (.etc2EacSrgb8A8 d) := ⟨low_bits _, rfl⟩
theorem bc1RgbUnorm (d : Block) : Statement (.bc1RgbUnorm d) := ⟨low_bits _, rfl⟩
theorem bc1RgbSrgb (d : Block) : Statement (.bc1RgbSrgb d) := ⟨low_bits _, rfl⟩
theorem bc1RgbaUnorm (d : Block) : Statement (.bc1RgbaUnorm d) := ⟨low_bits _, rfl⟩
theorem bc1RgbaSrgb (d : Block) : Statement (.bc1RgbaSrgb d) := ⟨low_bits _, rfl⟩
theorem bc2Unorm (d : Block) : Statement (.bc2Unorm d) := ⟨low_bits _, rfl⟩
theorem bc2Srgb (d : Block) : Statement (.bc2Srgb d) := ⟨low_bits _, rfl⟩
theorem bc3Unorm (d : Block) : Statement (.bc3Unorm d) := ⟨low_bits _, rfl⟩
theorem bc3Srgb (d : Block) : Statement (.bc3Srgb d) := ⟨low_bits _, rfl⟩
theorem bc4Unorm (d : Block) : Statement (.bc4Unorm d) := ⟨low_bits _, rfl⟩
theorem bc4Snorm (d : Block) : Statement (.bc4Snorm d) := ⟨low_bits _, rfl⟩
theorem bc5Unorm (d : Block) : Statement (.bc5Unorm d) := ⟨low_bits _, rfl⟩
theorem bc5Snorm (d : Block) : Statement (.bc5Snorm d) := ⟨low_bits _, rfl⟩
theorem bc6hUfloat (d : Block) : Statement (.bc6hUfloat d) := ⟨low_bits _, rfl⟩
theorem bc6hSfloat (d : Block) : Statement (.bc6hSfloat d) := ⟨low_bits _, rfl⟩
theorem bc7Unorm (d : Block) : Statement (.bc7Unorm d) := ⟨low_bits _, rfl⟩
theorem bc7Srgb (d : Block) : Statement (.bc7Srgb d) := ⟨low_bits _, rfl⟩
theorem reserved27 (d : Block) : Statement (.reserved27 d) := ⟨low_bits _, rfl⟩
theorem reserved28 (d : Block) : Statement (.reserved28 d) := ⟨low_bits _, rfl⟩
theorem reserved29 (d : Block) : Statement (.reserved29 d) := ⟨low_bits _, rfl⟩
theorem reserved30 (d : Block) : Statement (.reserved30 d) := ⟨low_bits _, rfl⟩
theorem reserved31 (d : Block) : Statement (.reserved31 d) := ⟨low_bits _, rfl⟩

end Sys2Proof.Laws.OpcodeField
end

