-- ==== Sys2Proof/Laws/Tiler.lean ====
section
/-! SUPPORT. What the tiler's operations and a team's events can do, said once. -/

namespace Sys2Proof.Laws

open Sys2Proof Sys2Proof.Machine

@[simp] theorem put_layout (i : Image) (x y z : Nat) (t : Texel) : (i.put x y z t).layout = i.layout := rfl
@[simp] theorem put_extent (i : Image) (x y z : Nat) (t : Texel) : (i.put x y z t).extent = i.extent := rfl
@[simp] theorem put_texels (i : Image) (x y z : Nat) (t : Texel) :
    (i.put x y z t).texels = i.texels.set (texelIndex i.extent x y z) t := rfl

@[simp] theorem setStorage_fmt (t : Texture) (fmt : FmtCode) (e : Extent) (f : Nat → Byte) : (t.setStorage fmt e f).fmt = fmt := rfl
@[simp] theorem setStorage_extent (t : Texture) (fmt : FmtCode) (e : Extent) (f : Nat → Byte) :
    (t.setStorage fmt e f).extent = e := rfl

/-- After `setStorage` the buffer has the source length, whatever the texture was (20_memory R41). -/
theorem setStorage_length (t : Texture) (fmt : FmtCode) (e : Extent) (f : Nat → Byte) :
    (t.setStorage fmt e f).packed.length = sourceLength (t.setStorage fmt e f) := by
  simp [Texture.setStorage, sourceLength]

/-- A converted pixel has the bytes its layout gives a pixel. -/
theorem convert_length {layout : Layout} {n : Nat} (h : layout.texelBytes = some n) (v : Pixel) : (convert layout v).length = n := by
  cases layout <;> simp only [Layout.texelBytes, Option.some.injEq, reduceCtorEq] at h <;> subst h <;> rfl

/-- Writing a converted pixel leaves the buffer allocated in its layout. -/
theorem put_texelsFit {i : Image} (h : i.texelsFit = true) (x y z : Nat) (v : Pixel) :
    (i.put x y z (convert i.layout v)).texelsFit = true := by
  unfold Image.texelsFit at h ⊢
  simp only [List.all_eq_true, put_layout, put_texels] at h ⊢
  intro t ht
  rcases List.mem_or_eq_of_mem_set ht with ht | rfl
  · exact h t ht
  · cases e : i.layout.texelBytes with
    | none => rfl
    | some n => simp [convert_length e]

/-- If the step of a block answers, it is the step of the request made of its bytes. -/
theorem issueBlock_ok {pad : Nat → Nat → Byte} {t : Texture} {b : BlockPos} {s s' : State} (h : issueBlock pad t b s = .ok s') :
    exec (decodeRequest ⟨t.fmt, blockData pad t (blockIndex t.extent b)⟩) s = .next s' := by
  unfold issueBlock at h
  split at h
  · rename_i e
    injection h with h
    exact h ▸ e
  · cases h
  · cases h

/-- A pixel is copied if it lies inside the image, which takes a response; otherwise nothing happens. -/
theorem copyPixel_ok {s : State} {b : BlockPos} {dst dst' : Image} {p : Fin 16} (h : copyPixel s b dst p = .ok dst') :
    (4 * b.x + p.val % 4 < dst.extent.w ∧ 4 * b.y + p.val / 4 < dst.extent.h ∧ s.valid = true ∧
      dst' = dst.put (4 * b.x + p.val % 4) (4 * b.y + p.val / 4) b.z (convert dst.layout s.px[p])) ∨
    (¬(4 * b.x + p.val % 4 < dst.extent.w ∧ 4 * b.y + p.val / 4 < dst.extent.h) ∧ dst' = dst) := by
  unfold copyPixel at h
  split at h
  · rename_i hr
    split at h
    · rename_i v hv
      obtain ⟨hs, rfl⟩ := readPx_eq_some.mp hv
      injection h with h
      exact .inl ⟨hr.1, hr.2, hs, h.symm⟩
    · cases h
  · rename_i hr
    injection h with h
    exact .inr ⟨hr, h.symm⟩

/-- A block of the walk is its step and then its copies. -/
theorem tileBlock_ok {pad : Nat → Nat → Byte} {t : Texture} {b : BlockPos} {s s' : State} {dst dst' : Image}
    (h : tileBlock pad t b s dst = .ok (s', dst')) :
    issueBlock pad t b s = .ok s' ∧ copyPixels s' b (List.finRange 16) dst = .ok dst' := by
  unfold tileBlock at h
  split at h
  · rename_i u hu
    split at h
    · rename_i d hd
      injection h with h
      injection h with h1 h2
      exact ⟨h1 ▸ hu, h1 ▸ h2 ▸ hd⟩
    · cases h
  · cases h

/-- If a worker takes an event, it is the first of its work, and only its own instance and the destination can change. -/
theorem act_some {pad : Nat → Nat → Byte} {t : Texture} {k : Nat} {tm tm' : Team} (h : tm.act pad t k = some tm') :
    ∃ w e rest s' dst', tm.workers[k]? = some w ∧ w.work = e :: rest ∧ performEvent pad t e w.unit tm.dst = .ok (s', dst') ∧
      tm' = ⟨tm.workers.set k ⟨s', rest⟩, dst'⟩ := by
  unfold Team.act at h
  split at h
  · cases h
  · rename_i w hw
    split at h
    · cases h
    · rename_i e rest he
      split at h
      · rename_i r hr
        injection h with h
        exact ⟨w, e, rest, r.1, r.2, hw, he, hr, h.symm⟩
      · cases h

end Sys2Proof.Laws
end

