-- ==== Sys2Proof/Tests/Slice0.lean ====
section
/-! SUPPORT. The model's own tests. Expected values are the spec's: the vectors of 95_test_vectors.md, the examples of the rules
named, or the encoding of 30_encoding R60. -/

set_option Elab.async false

namespace Sys2Proof.Tests

open Sys2Proof Sys2Proof.Machine Sys2Proof.Claims Sys2Proof.Safety

/-- The lanes of pixel `p` after one step on the request with this word, from reset; nothing if there is no response. -/
def lanes (w : Nat) (p : Fin 16) : Option (List Nat) :=
  match step (State.reset.withFetchWord 136 w) with
  | .next t => (t.readPx p).map fun v => [v.c0.toNat, v.c1.toNat, v.c2.toNat, v.c3.toNat]
  | _ => none

/-- The state after a list of actions from reset, if the run ends. -/
def after (as : List Action) : Option State :=
  match performAll as State.reset with
  | .next t => some t
  | _ => none

/-- A block whose bytes are the list, then zeros. -/
def blk (l : List Nat) : Block := Vector.ofFn fun i => BitVec.ofNat 8 (l.getD i.val 0)

/-! WellFormed: a well-formed request passes, and each check refuses an ill-formed one. -/

theorem test_wellFormed_full : (Written.mk 25 (List.replicate 16 0)).wellFormed = true := by decide
theorem test_wellFormed_short : (Written.mk 11 (List.replicate 8 0)).wellFormed = true := by decide
theorem test_wellFormed_code_too_large : (Written.mk 32 (List.replicate 16 0)).codeOk = false := by decide
theorem test_wellFormed_short_for_a_long_format : (Written.mk 25 (List.replicate 8 0)).lengthOk = false := by decide
theorem test_wellFormed_seventeen_bytes : (Written.mk 11 (List.replicate 17 0)).lengthOk = false := by decide
theorem test_wellFormed_byte_too_large : (Written.mk 11 [256, 0, 0, 0, 0, 0, 0, 0]).bytesOk = false := by decide
theorem test_wellFormed_refuses :
    (Written.mk 32 (List.replicate 16 0)).toInstr = none ∧ (Written.mk 11 [256, 0, 0, 0, 0, 0, 0, 0]).toInstr = none ∧
      (Written.mk 25 (List.replicate 8 0)).toInstr = none := by decide
theorem test_written_short_is_filled_with_zeros :
    (Written.mk 11 [0xFF, 0xFF, 0, 0, 0, 0, 0, 0]).toInstr =
      some (.bc1RgbUnorm #v[0xFF, 0xFF, 0, 0, 0, 0, 0, 0, 0, 0, 0, 0, 0, 0, 0, 0]) := by decide +kernel

theorem test_written_by_mnemonic :
    (Written.ofText "DEC.BC7_SRGB" [1]) = some ⟨26, [1]⟩ ∧ (Written.ofText "DEC.ASTC" [1]) = none := by decide +kernel

/-! Decode: for every row, the word of one request written from 30_encoding R60 and R69: the code in bits 4:0, byte `i` in bits
`12+8i:5+8i`. -/

/-- `DEC.ETC1_RGB8`. -/
theorem test_decode_etc1Rgb8 : decodeTableWord 136 0x155559998E81F11E00 =
    some (.etc1Rgb8 #v[0xF0, 0x88, 0x0F, 0x74, 0xCC, 0xCC, 0xAA, 0xAA, 0, 0, 0, 0, 0, 0, 0, 0]) := by decide +kernel
/-- `DEC.EAC_R11`. -/
theorem test_decode_eacR11 : decodeTableWord 136 0xEE720AEE720A47001 =
    some (.eacR11 #v[0x80, 0x23, 0x05, 0x39, 0x77, 0x05, 0x39, 0x77, 0, 0, 0, 0, 0, 0, 0, 0]) := by decide +kernel
/-- `DEC.EAC_SIGNED_R11`. -/
theorem test_decode_eacSignedR11 : decodeTableWord 136 0xEE720AEE720A6FFE2 =
    some (.eacSignedR11 #v[0xFF, 0x37, 0x05, 0x39, 0x77, 0x05, 0x39, 0x77, 0, 0, 0, 0, 0, 0, 0, 0]) := by decide +kernel
/-- `DEC.EAC_RG11`. -/
theorem test_decode_eacRg11 : decodeTableWord 136 0xEE720AEE720BE000EE720AEE720A47003 =
    some (.eacRg11 #v[0x80, 0x23, 0x05, 0x39, 0x77, 0x05, 0x39, 0x77, 0, 0xF0, 0x05, 0x39, 0x77, 0x05, 0x39, 0x77]) := by decide +kernel
/-- `DEC.EAC_SIGNED_RG11`. -/
theorem test_decode_eacSignedRg11 : decodeTableWord 136 0xEE720AEE720A1A00EE720AEE720A6FFE4 =
    some (.eacSignedRg11 #v[0xFF, 0x37, 0x05, 0x39, 0x77, 0x05, 0x39, 0x77, 0, 0x0D, 0x05, 0x39, 0x77, 0x05, 0x39, 0x77]) := by decide +kernel
/-- `DEC.ETC2_RGB8`. -/
theorem test_decode_etc2Rgb8 : decodeTableWord 136 0x155559998E81F11E05 =
    some (.etc2Rgb8 #v[0xF0, 0x88, 0x0F, 0x74, 0xCC, 0xCC, 0xAA, 0xAA, 0, 0, 0, 0, 0, 0, 0, 0]) := by decide +kernel
/-- `DEC.ETC2_SRGB8`. -/
theorem test_decode_etc2Srgb8 : decodeTableWord 136 0x155559998E81F11E06 =
    some (.etc2Srgb8 #v[0xF0, 0x88, 0x0F, 0x74, 0xCC, 0xCC, 0xAA, 0xAA, 0, 0, 0, 0, 0, 0, 0, 0]) := by decide +kernel
/-- `DEC.ETC2_RGB8_PTA1`. -/
theorem test_decode_etc2Rgb8Pta1 : decodeTableWord 136 0x15555999839F149067 =
    some (.etc2Rgb8Pta1 #v[0x83, 0xA4, 0xF8, 0x1C, 0xCC, 0xCC, 0xAA, 0xAA, 0, 0, 0, 0, 0, 0, 0, 0]) := by decide +kernel
/-- `DEC.ETC2_SRGB8_PTA1`. -/
theorem test_decode_etc2Srgb8Pta1 : decodeTableWord 136 0x15555999839F149068 =
    some (.etc2Srgb8Pta1 #v[0x83, 0xA4, 0xF8, 0x1C, 0xCC, 0xCC, 0xAA, 0xAA, 0, 0, 0, 0, 0, 0, 0, 0]) := by decide +kernel
/-- `DEC.ETC2_EAC_RGBA8`. -/
theorem test_decode_etc2EacRgba8 : decodeTableWord 136 0x155559998E81F11E09324489324483B009 =
    some (.etc2EacRgba8 #v[0x80, 0x1D, 0x24, 0x92, 0x49, 0x24, 0x92, 0x49, 0xF0, 0x88, 0x0F, 0x74, 0xCC, 0xCC, 0xAA, 0xAA]) := by decide +kernel
/-- `DEC.ETC2_EAC_SRGB8_A8`. -/
theorem test_decode_etc2EacSrgb8A8 : decodeTableWord 136 0x155559998E81F11E09324489324483B00A =
    some (.etc2EacSrgb8A8 #v[0x80, 0x1D, 0x24, 0x92, 0x49, 0x24, 0x92, 0x49, 0xF0, 0x88, 0x0F, 0x74, 0xCC, 0xCC, 0xAA, 0xAA]) := by decide +kernel
/-- `DEC.BC1_RGB_UNORM`. -/
theorem test_decode_bc1RgbUnorm : decodeTableWord 136 0x1FF54AA00003FF000B =
    some (.bc1RgbUnorm #v[0, 0xF8, 0x1F, 0, 0, 0x55, 0xAA, 0xFF, 0, 0, 0, 0, 0, 0, 0, 0]) := by decide +kernel
/-- `DEC.BC1_RGB_SRGB`. -/
theorem test_decode_bc1RgbSrgb : decodeTableWord 136 0x1FF54AA00003FF000C =
    some (.bc1RgbSrgb #v[0, 0xF8, 0x1F, 0, 0, 0x55, 0xAA, 0xFF, 0, 0, 0, 0, 0, 0, 0, 0]) := by decide +kernel
/-- `DEC.BC1_RGBA_UNORM`. -/
theorem test_decode_bc1RgbaUnorm : decodeTableWord 136 0x1FF54AA01F000003ED =
    some (.bc1RgbaUnorm #v[0x1F, 0, 0, 0xF8, 0, 0x55, 0xAA, 0xFF, 0, 0, 0, 0, 0, 0, 0, 0]) := by decide +kernel
/-- `DEC.BC1_RGBA_SRGB`. -/
theorem test_decode_bc1RgbaSrgb : decodeTableWord 136 0x1FF54AA01F000003EE =
    some (.bc1RgbaSrgb #v[0x1F, 0, 0, 0xF8, 0, 0x55, 0xAA, 0xFF, 0, 0, 0, 0, 0, 0, 0, 0]) := by decide +kernel
/-- `DEC.BC2_UNORM`. -/
theorem test_decode_bc2Unorm : decodeTableWord 136 0x1FF54AA01F000003FFDB97530ECA86420F =
    some (.bc2Unorm #v[0x10, 0x32, 0x54, 0x76, 0x98, 0xBA, 0xDC, 0xFE, 0x1F, 0, 0, 0xF8, 0, 0x55, 0xAA, 0xFF]) := by decide +kernel
/-- `DEC.BC2_SRGB`. -/
theorem test_decode_bc2Srgb : decodeTableWord 136 0x1FF54AA01F000003FFDB97530ECA864210 =
    some (.bc2Srgb #v[0x10, 0x32, 0x54, 0x76, 0x98, 0xBA, 0xDC, 0xFE, 0x1F, 0, 0, 0xF8, 0, 0x55, 0xAA, 0xFF]) := by decide +kernel
/-- `DEC.BC3_UNORM`. -/
theorem test_decode_bc3Unorm : decodeTableWord 136 0x1FF54AA00003FF001F58D11F58D1001FF1 =
    some (.bc3Unorm #v[0xFF, 0, 0x88, 0xC6, 0xFA, 0x88, 0xC6, 0xFA, 0, 0xF8, 0x1F, 0, 0, 0x55, 0xAA, 0xFF]) := by decide +kernel
/-- `DEC.BC3_SRGB`. -/
theorem test_decode_bc3Srgb : decodeTableWord 136 0x1FF54AA00003FF001F58D11F58D1001FF2 =
    some (.bc3Srgb #v[0xFF, 0, 0x88, 0xC6, 0xFA, 0x88, 0xC6, 0xFA, 0, 0xF8, 0x1F, 0, 0, 0x55, 0xAA, 0xFF]) := by decide +kernel
/-- `DEC.BC4_UNORM`. -/
theorem test_decode_bc4Unorm : decodeTableWord 136 0x1F58D11F58D1001FF3 =
    some (.bc4Unorm #v[0xFF, 0, 0x88, 0xC6, 0xFA, 0x88, 0xC6, 0xFA, 0, 0, 0, 0, 0, 0, 0, 0]) := by decide +kernel
/-- `DEC.BC4_SNORM`. -/
theorem test_decode_bc4Snorm : decodeTableWord 136 0x1F58D11F58D1102FF4 =
    some (.bc4Snorm #v[0x7F, 0x81, 0x88, 0xC6, 0xFA, 0x88, 0xC6, 0xFA, 0, 0, 0, 0, 0, 0, 0, 0]) := by decide +kernel
/-- `DEC.BC5_UNORM`. -/
theorem test_decode_bc5Unorm : decodeTableWord 136 0x1F58D11F58D11FE01F58D11F58D1001FF5 =
    some (.bc5Unorm #v[0xFF, 0, 0x88, 0xC6, 0xFA, 0x88, 0xC6, 0xFA, 0, 0xFF, 0x88, 0xC6, 0xFA, 0x88, 0xC6, 0xFA]) := by decide +kernel
/-- `DEC.BC5_SNORM`. -/
theorem test_decode_bc5Snorm : decodeTableWord 136 0x1F58D11F58D10FF01F58D11F58D1102FF6 =
    some (.bc5Snorm #v[0x7F, 0x81, 0x88, 0xC6, 0xFA, 0x88, 0xC6, 0xFA, 0x80, 0x7F, 0x88, 0xC6, 0xFA, 0x88, 0xC6, 0xFA]) := by decide +kernel
/-- `DEC.BC6H_UFLOAT`. -/
theorem test_decode_bc6hUfloat : decodeTableWord 136 0x198ABC398AB8E3026C55FB72151D69D897 =
    some (.bc6hUfloat #v[0xC4, 0x4E, 0xEB, 0xA8, 0x90, 0xDB, 0xAF, 0x62, 0x13, 0x18, 0xC7, 0x55, 0xCC, 0xE1, 0x55, 0xCC]) := by decide +kernel
/-- `DEC.BC6H_SFLOAT`. -/
theorem test_decode_bc6hSfloat : decodeTableWord 136 0x198ABC398AB8E3026C55FB72151D69D898 =
    some (.bc6hSfloat #v[0xC4, 0x4E, 0xEB, 0xA8, 0x90, 0xDB, 0xAF, 0x62, 0x13, 0x18, 0xC7, 0x55, 0xCC, 0xE1, 0x55, 0xCC]) := by decide +kernel
/-- `DEC.BC7_UNORM`. -/
theorem test_decode_bc7Unorm : decodeTableWord 136 0x131578762AF110C749CB748586CC8712B9 =
    some (.bc7Unorm #v[0x95, 0x38, 0x64, 0x36, 0x2C, 0xA4, 0x5B, 0x4E, 0x3A, 0x86, 0x88, 0x57, 0xB1, 0xC3, 0xAB, 0x98]) := by decide +kernel
/-- `DEC.BC7_SRGB`. -/
theorem test_decode_bc7Srgb : decodeTableWord 136 0x131578762AF110C749CB748586CC8712BA =
    some (.bc7Srgb #v[0x95, 0x38, 0x64, 0x36, 0x2C, 0xA4, 0x5B, 0x4E, 0x3A, 0x86, 0x88, 0x57, 0xB1, 0xC3, 0xAB, 0x98]) := by decide +kernel
/-- `RESERVED.27`. -/
theorem test_decode_reserved27 : decodeTableWord 136 0x15F5D5B59575553514F4D4B4947454341B =
    some (.reserved27 #v[0xA0, 0xA1, 0xA2, 0xA3, 0xA4, 0xA5, 0xA6, 0xA7, 0xA8, 0xA9, 0xAA, 0xAB, 0xAC, 0xAD, 0xAE, 0xAF]) := by decide +kernel
/-- `RESERVED.28`. -/
theorem test_decode_reserved28 : decodeTableWord 136 0x15F5D5B59575553514F4D4B4947454341C =
    some (.reserved28 #v[0xA0, 0xA1, 0xA2, 0xA3, 0xA4, 0xA5, 0xA6, 0xA7, 0xA8, 0xA9, 0xAA, 0xAB, 0xAC, 0xAD, 0xAE, 0xAF]) := by decide +kernel
/-- `RESERVED.29`. -/
theorem test_decode_reserved29 : decodeTableWord 136 0x15F5D5B59575553514F4D4B4947454341D =
    some (.reserved29 #v[0xA0, 0xA1, 0xA2, 0xA3, 0xA4, 0xA5, 0xA6, 0xA7, 0xA8, 0xA9, 0xAA, 0xAB, 0xAC, 0xAD, 0xAE, 0xAF]) := by decide +kernel
/-- `RESERVED.30`. -/
theorem test_decode_reserved30 : decodeTableWord 136 0x15F5D5B59575553514F4D4B4947454341E =
    some (.reserved30 #v[0xA0, 0xA1, 0xA2, 0xA3, 0xA4, 0xA5, 0xA6, 0xA7, 0xA8, 0xA9, 0xAA, 0xAB, 0xAC, 0xAD, 0xAE, 0xAF]) := by decide +kernel
/-- `RESERVED.31`. -/
theorem test_decode_reserved31 : decodeTableWord 136 0x15F5D5B59575553514F4D4B4947454341F =
    some (.reserved31 #v[0xA0, 0xA1, 0xA2, 0xA3, 0xA4, 0xA5, 0xA6, 0xA7, 0xA8, 0xA9, 0xAA, 0xAB, 0xAC, 0xAD, 0xAE, 0xAF]) := by decide +kernel

/-- The three bits above a request are refused. -/
theorem test_decode_padding : decodeBytes (natToBytes 17 (2 ^ 133)) = .error .paddingSet := by decide +kernel
/-- A request of the wrong length is refused. -/
theorem test_decode_length : decodeBytes (List.replicate 16 0) = .error .badLength := by decide +kernel

/-! One step on the request, from reset: two pixels of a vector of 95_test_vectors, or of its linear twin (30_encoding R63). -/

/-- `DEC.ETC1_RGB8`, R135. -/
theorem test_run_etc1Rgb8 :
    lanes 0x155559998E81F11E00 5 = some [255, 178, 42, 0] ∧
    lanes 0x155559998E81F11E00 11 = some [0, 112, 231, 0] := by decide +kernel
/-- `DEC.EAC_R11`, R166. -/
theorem test_run_eacR11 :
    lanes 0xEE720AEE720A47001 5 = some [34448, 0, 0, 0] ∧
    lanes 0xEE720AEE720A07001 11 = some [33072, 0, 0, 0] ∧
    lanes 0xEE720AEE720BE1FE1 13 = some [65535, 0, 0, 0] ∧
    lanes 0xEE720AEE720BE0001 2 = some [0, 0, 0, 0] := by decide +kernel
/-- `DEC.EAC_SIGNED_R11`, R167. -/
theorem test_run_eacSignedR11 :
    lanes 0xEE720AEE720A6FFE2 5 = some [2817, 0, 0, 0] ∧
    lanes 0xEE720AEE720A3B002 11 = some [33521, 0, 0, 0] ∧
    lanes 0xEE720AEE720BE0FE2 13 = some [32751, 0, 0, 0] := by decide +kernel
/-- `DEC.EAC_RG11`, R168. -/
theorem test_run_eacRg11 :
    lanes 0xEE720AEE720BE000EE720AEE720A47003 5 = some [34448, 19337, 0, 0] ∧
    lanes 0xEE720AEE720BE000EE720AEE720A47003 11 = some [35473, 30863, 0, 0] := by decide +kernel
/-- `DEC.EAC_SIGNED_RG11`, R169. -/
theorem test_run_eacSignedRg11 :
    lanes 0xEE720AEE720A1A00EE720AEE720A6FFE4 5 = some [2817, 32, 0, 0] ∧
    lanes 0xEE720AEE720A1A00EE720AEE720A6FFE4 11 = some [5122, 64, 0, 0] := by decide +kernel
/-- `DEC.ETC2_RGB8`, R136. -/
theorem test_run_etc2Rgb8 :
    lanes 0x155559998E81F11E05 5 = some [255, 178, 42, 0] ∧
    lanes 0x155559998EA1F11E05 11 = some [0, 112, 231, 0] ∧
    lanes 0x1555599983DF149065 13 = some [124, 157, 247, 0] ∧
    lanes 0x155559999F6D285E65 2 = some [187, 68, 34, 0] ∧
    lanes 0x7E2149FC041A00FC5 5 = some [160, 96, 104, 0] := by decide +kernel
/-- `DEC.ETC2_SRGB8`, R137. -/
theorem test_run_etc2Srgb8 :
    lanes 0x155559998E81F11E06 5 = some [255, 178, 42, 0] ∧
    lanes 0x155559998E81F11E06 11 = some [0, 112, 231, 0] := by decide +kernel
/-- `DEC.ETC2_RGB8_PTA1`, R138. -/
theorem test_run_etc2Rgb8Pta1 :
    lanes 0x15555999839F149067 5 = some [140, 173, 255, 255] ∧
    lanes 0x155559999F2D285E67 11 = some [0, 0, 0, 0] := by decide +kernel
/-- `DEC.ETC2_SRGB8_PTA1`, R139. -/
theorem test_run_etc2Srgb8Pta1 :
    lanes 0x15555999839F149068 5 = some [140, 173, 255, 255] ∧
    lanes 0x15555999839F149068 11 = some [0, 0, 0, 0] := by decide +kernel
/-- `DEC.ETC2_EAC_RGBA8`, R140. -/
theorem test_run_etc2EacRgba8 :
    lanes 0xEE720AEE720AE1909 5 = some [2, 2, 2, 235] ∧
    lanes 0x155559998E81F11E09324489324483B009 11 = some [0, 112, 231, 126] := by decide +kernel
/-- `DEC.ETC2_EAC_SRGB8_A8`, R141. -/
theorem test_run_etc2EacSrgb8A8 :
    lanes 0x155559998E81F11E09324489324483B00A 5 = some [255, 178, 42, 126] ∧
    lanes 0x155559998E81F11E09324489324483B00A 11 = some [0, 112, 231, 126] := by decide +kernel
/-- `DEC.BC1_RGB_UNORM`, R186. -/
theorem test_run_bc1RgbUnorm :
    lanes 0x1FF54AA00003FF000B 5 = some [0, 0, 255, 255] ∧
    lanes 0x1FF54AA01F000003EB 11 = some [127, 0, 127, 255] := by decide +kernel
/-- `DEC.BC1_RGB_SRGB`, R187. -/
theorem test_run_bc1RgbSrgb :
    lanes 0x1FF54AA00003FF000C 5 = some [0, 0, 255, 255] ∧
    lanes 0x1FF54AA00003FF000C 11 = some [170, 0, 85, 255] := by decide +kernel
/-- `DEC.BC1_RGBA_UNORM`, R188. -/
theorem test_run_bc1RgbaUnorm :
    lanes 0x1FF54AA0024682468D 5 = some [16, 69, 165, 255] ∧
    lanes 0x1FF54AA01F000003ED 11 = some [127, 0, 127, 255] ∧
    lanes 0x1C9C9C9C9087EF3C8D 13 = some [132, 134, 255, 255] := by decide +kernel
/-- `DEC.BC1_RGBA_SRGB`, R189. -/
theorem test_run_bc1RgbaSrgb :
    lanes 0x1FF54AA01F000003EE 5 = some [255, 0, 0, 255] ∧
    lanes 0x1FF54AA01F000003EE 11 = some [127, 0, 127, 255] := by decide +kernel
/-- `DEC.BC2_UNORM`, R191. -/
theorem test_run_bc2Unorm :
    lanes 0x1FF54AA01F000003FFDB97530ECA86420F 5 = some [255, 0, 0, 85] ∧
    lanes 0x1FF54AA01F000003FFDB97530ECA86420F 11 = some [85, 0, 170, 187] := by decide +kernel
/-- `DEC.BC2_SRGB`, R192. -/
theorem test_run_bc2Srgb :
    lanes 0x1FF54AA01F000003FFDB97530ECA864210 5 = some [255, 0, 0, 85] ∧
    lanes 0x1FF54AA01F000003FFDB97530ECA864210 11 = some [85, 0, 170, 187] := by decide +kernel
/-- `DEC.BC3_UNORM`, R195. -/
theorem test_run_bc3Unorm :
    lanes 0x1FF54AA00003FF001F58D11F58D1001FF1 5 = some [0, 0, 255, 109] ∧
    lanes 0x1FF54AA00003FF001F58D11F58D1190651 11 = some [170, 0, 85, 110] := by decide +kernel
/-- `DEC.BC3_SRGB`, R196. -/
theorem test_run_bc3Srgb :
    lanes 0x1FF54AA00003FF001F58D11F58D1001FF2 5 = some [0, 0, 255, 109] ∧
    lanes 0x1FF54AA00003FF001F58D11F58D1001FF2 11 = some [170, 0, 85, 182] := by decide +kernel
/-- `DEC.BC4_UNORM`, R213. -/
theorem test_run_bc4Unorm :
    lanes 0x1F58D11F58D1001FF3 5 = some [3825, 0, 0, 0] ∧
    lanes 0x1F58D11F58D11FE013 11 = some [3570, 0, 0, 0] ∧
    lanes 0x1F58D11F58D1065913 13 = some [4000, 0, 0, 0] := by decide +kernel
/-- `DEC.BC4_SNORM`, R214. -/
theorem test_run_bc4Snorm :
    lanes 0x1F58D11F58D1102FF4 5 = some [64901, 0, 0, 0] ∧
    lanes 0x1F58D11F58D1065914 11 = some [65060, 0, 0, 0] := by decide +kernel
/-- `DEC.BC5_UNORM`, R215. -/
theorem test_run_bc5Unorm :
    lanes 0x1F58D11F58D11FE01F58D11F58D1001FF5 5 = some [3825, 7140, 0, 0] ∧
    lanes 0x1F58D11F58D11FE01F58D11F58D1001FF5 11 = some [6375, 3570, 0, 0] := by decide +kernel
/-- `DEC.BC5_SNORM`, R216. -/
theorem test_run_bc5Snorm :
    lanes 0x1F58D11F58D10FF01F58D11F58D1102FF6 5 = some [64901, 2667, 0, 0] ∧
    lanes 0x1F58D11F58D10FF01F58D11F58D1102FF6 11 = some [1905, 64647, 0, 0] := by decide +kernel
/-- `DEC.BC6H_UFLOAT`, R264. -/
theorem test_run_bc6hUfloat :
    lanes 0x198ABC398AB8E3026C55FB72151D69D897 5 = some [19545, 14585, 2619, 0] ∧
    lanes 0x131578731578874058D341DE830AA62DB7 11 = some [11156, 7409, 22606, 0] ∧
    lanes 0x198ABC398AB8FF13CE681D12D090EE0057 13 = some [14128, 4254, 12981, 0] ∧
    lanes 0x198ABC398AB8E238A8C5055CB308977CD7 2 = some [23342, 2208, 11025, 0] ∧
    lanes 0x198ABC398AB8EAEE9E8E300A0513DACD57 5 = some [10625, 4921, 16298, 0] ∧
    lanes 0x198ABC398AB8E9E8AE42ED9BB4C10169D7 11 = some [5523, 935, 13182, 0] ∧
    lanes 0x13157873157894077900D7D1AA1FBBF257 13 = some [3162, 1302, 20646, 0] ∧
    lanes 0x198ABC398AB8D2ED7D97B09214555DEED7 2 = some [15257, 8817, 10714, 0] ∧
    lanes 0x131578731578B099F9DD9067CD07F98357 5 = some [12834, 15934, 10230, 0] ∧
    lanes 0x1315787315788C29CF6F5FB39E5E5ADFD7 11 = some [14430, 23203, 21359, 0] ∧
    lanes 0x1D70A5F92C61B4E84EA9AB7BE0D3ACB877 13 = some [26517, 14756, 16932, 0] ∧
    lanes 0x1D70A5F92C61B4E86272C43FEBBC9200F7 2 = some [2449, 16313, 30764, 0] ∧
    lanes 0x1D70A5F92C61B4E8643016AD4B70134177 5 = some [9551, 5963, 10272, 0] ∧
    lanes 0x1D70A5F92C61B4E85C79E365749389A5F7 11 = some [13691, 28422, 7170, 0] ∧
    lanes 0x1FDB97530ECA86423FFFFFFF0000000077 13 = some [27279, 27279, 27279, 0] := by decide +kernel
/-- `DEC.BC6H_SFLOAT`, R265. -/
theorem test_run_bc6hSfloat :
    lanes 0x198ABC398AB8E3026C55FB72151D69D898 5 = some [57227, 29171, 5239, 0] ∧
    lanes 0x131578731578874058D341DE830AA62DB8 11 = some [4247, 14818, 33543, 0] ∧
    lanes 0x198ABC398AB8FF13CE681D12D090EE0058 13 = some [28256, 8509, 25962, 0] ∧
    lanes 0x198ABC398AB8E238A8C5055CB308977CD8 2 = some [49602, 4417, 22051, 0] ∧
    lanes 0x198ABC398AB8EAEE9E8E300A0513DACD58 5 = some [21250, 9842, 63690, 0] ∧
    lanes 0x198ABC398AB8E9E8AE42ED9BB4C10169D8 11 = some [11047, 1871, 26365, 0] ∧
    lanes 0x13157873157894077900D7D1AA1FBBF258 13 = some [6324, 2604, 55212, 0] ∧
    lanes 0x198ABC398AB8D2ED7D97B09214555DEED8 2 = some [3627, 17635, 21428, 0] ∧
    lanes 0x131578731578B099F9DD9067CD07F98358 5 = some [25668, 64511, 20460, 0] ∧
    lanes 0x1315787315788C29CF6F5FB39E5E5ADFD8 11 = some [50252, 50841, 36395, 0] ∧
    lanes 0x1D70A5F92C61B4E84EA9AB7BE0D3ACB878 13 = some [43282, 37016, 4076, 0] ∧
    lanes 0x1D70A5F92C61B4E86272C43FEBBC9200F8 2 = some [4898, 2852, 34758, 0] ∧
    lanes 0x1D70A5F92C61B4E8643016AD4B70134178 5 = some [19103, 11927, 20545, 0] ∧
    lanes 0x1D70A5F92C61B4E85C79E365749389A5F8 11 = some [27382, 39410, 14340, 0] ∧
    lanes 0x1FDB97530ECA86423FFFFFFF0000000078 13 = some [32847, 32847, 32847, 0] := by decide +kernel
/-- `DEC.BC7_UNORM`, R307. -/
theorem test_run_bc7Unorm :
    lanes 0x131578762AF110C749CB748586CC8712B9 5 = some [24, 24, 41, 255] ∧
    lanes 0x198ABC398AB8C39065EC1ABCE7A5ACA8D9 11 = some [167, 139, 149, 255] ∧
    lanes 0xC6C6CD9568E4972BF995EB7CEFDED3699 13 = some [156, 255, 214, 255] ∧
    lanes 0x1636363499723D3FD9AF4098AD7F535719 2 = some [150, 175, 38, 255] ∧
    lanes 0x143C67543C67AC6C6C6C9CADBA1B625A19 5 = some [169, 85, 215, 108] ∧
    lanes 0x9C9C9C9AC6C6C6CFF64657E864B71FC19 11 = some [84, 93, 218, 178] ∧
    lanes 0x1D70A5F92C61B4E878FB91C7CDC9514819 13 = some [64, 216, 105, 180] ∧
    lanes 0x1636346CCDF4904A0BF81CE4ACA9761019 2 = some [73, 113, 89, 73] ∧
    lanes 0x3636373B9393939007F80FF0207F01C19 5 = some [84, 129, 84, 171] ∧
    lanes 0x11D58F11D58F393939397E07C1F07C1219 11 = some [219, 219, 219, 255] ∧
    lanes 0x1EB1A23EB1A23F81F81F81F81F81F80059 13 = some [184, 184, 184, 255] := by decide +kernel
/-- `DEC.BC7_SRGB`, R308. -/
theorem test_run_bc7Srgb :
    lanes 0x131578762AF110C749CB748586CC8712BA 5 = some [24, 24, 41, 255] ∧
    lanes 0x131578762AF110C749CB748586CC8712BA 11 = some [86, 214, 25, 255] := by decide +kernel

/-! Programs of 95_test_vectors. -/

/-- P1: nothing of an earlier request remains. -/
theorem test_program_p1 :
    (after [.reset, .decode ⟨13, blk [0xFF, 0xFF]⟩, .readPx 5,
      .decode ⟨25, blk [0x40, 0xC0, 0x1F, 0xF0, 0x07, 0xFC, 0x01, 0x7F, 0x11, 0x32, 0x54, 0x76, 0x98, 0xBA, 0xDC, 0xFE]⟩,
      .readPx 5, .decode ⟨13, blk [0, 0, 0xFF, 0xFF]⟩, .readStatus]).map (·.reads) =
    some [.status true false, .px 5 ⟨84, 84, 84, 84⟩, .px 5 ⟨255, 255, 255, 255⟩] := by decide +kernel

/-- P2: a reserved code, and the sticky bit after a legal request; 27 stands for the five codes. -/
theorem test_program_p2 :
    (after [.reset, .decode ⟨27, blk []⟩, .readStatus,
      .decode ⟨19, blk [0xFF, 0, 0x88, 0xC6, 0xFA, 0x88, 0xC6, 0xFA]⟩, .readStatus, .readPx 2]).map (·.reads) =
    some [.px 2 ⟨7650, 0, 0, 0⟩, .status true true, .status false true] := by decide +kernel

/-- P2, between steps 2 and 4: the read is a requester fault. -/
theorem test_read_after_illegal_format :
    performAll [.reset, .decode ⟨31, blk []⟩, .readPx 0] State.reset = .fault .readInvalidPx := by rfl

/-- `RESET` clears the sticky bit. -/
theorem test_reset_clears_err :
    (after [.decode ⟨28, blk []⟩, .reset, .readStatus]).map (·.reads) = some [.status false false] := by decide +kernel

/-- The reserved codes in the step: `FMT` holds the code, `VALID` is 0, `ERR` is 1 (60_exceptions R351). -/
theorem test_run_reserved :
    ∀ c ∈ [(27 : FmtCode), 28, 29, 30, 31],
      (after [.decode ⟨c, blk [0xAB]⟩]).map (fun t => (t.fmt, t.blk, t.valid, t.err)) = some (c, blk [0xAB], false, true) := by
  decide +kernel

/-- The image of P3: 5 x 3, BC1 with alpha, from two blocks. -/
def imageP3 : Texture :=
  ⟨13, ⟨5, 3, 1⟩, [0x00, 0xF8, 0x1F, 0x00, 0x00, 0x55, 0xAA, 0xFF, 0x1F, 0x00, 0x00, 0xF8, 0xE4, 0xE4, 0xE4, 0xE4]⟩

/-- The destination of P3, all `EE`. -/
def destP3 : Image := ⟨.rgba8 false, ⟨5, 3, 1⟩, List.replicate 15 [0xEE, 0xEE, 0xEE, 0xEE]⟩

/-- P3: the finished image, whatever stood above the short blocks. -/
theorem test_program_p3 :
    ((decompress (fun i k => BitVec.ofNat 8 (i + k)) imageP3 State.reset destP3).toOption.map fun r => r.2.bytes) =
    some ([0xFF, 0, 0, 0xFF, 0xFF, 0, 0, 0xFF, 0xFF, 0, 0, 0xFF, 0xFF, 0, 0, 0xFF, 0, 0, 0xFF, 0xFF] ++
      [0, 0, 0xFF, 0xFF, 0, 0, 0xFF, 0xFF, 0, 0, 0xFF, 0xFF, 0, 0, 0xFF, 0xFF, 0, 0, 0xFF, 0xFF] ++
      [0xAA, 0, 0x55, 0xFF, 0xAA, 0, 0x55, 0xFF, 0xAA, 0, 0x55, 0xFF, 0xAA, 0, 0x55, 0xFF, 0, 0, 0xFF, 0xFF]) := by
  decide +kernel

/-- The two blocks of P3 on two instances that share the destination, the second block first and the copies interleaved: the same
image (20_memory R51 (3)). -/
theorem test_team_p3 :
    ((Team.actAll (fun _ _ => 0) imageP3 ([1, 0, 0] ++ (List.replicate 15 [1, 0]).flatten ++ [1])
      (Team.start [(State.reset, [⟨0, 0, 0⟩]), (State.reset, [⟨1, 0, 0⟩])] destP3)).map fun tm => (tm.dst, tm.workers.map (·.work))) =
    (decompress (fun _ _ => 0) imageP3 State.reset destP3).toOption.map fun r => (r.2, [[], []]) := by decide +kernel

/-- `setStorage` of a 5 x 3 BC1 image: two blocks of eight bytes, whatever the texture was (20_memory R41). -/
theorem test_set_storage :
    ((imageP3.setStorage 13 ⟨5, 3, 1⟩ fun _ => 0xAB).packed = List.replicate 16 0xAB) ∧
    (imageP3.setStorage 25 ⟨1, 1, 1⟩ fun _ => 0).packed.length = 16 := by decide +kernel

/-- A destination whose pixels have no bytes is not in the layout it names (20_memory R42). -/
theorem test_destination_not_allocated :
    (match decompress (fun _ _ => 0) imageP3 State.reset { destP3 with texels := List.replicate 15 [] } with
      | .error .layout => true
      | _ => false) = true := by decide +kernel

/-- 20_memory R46: the lane format of BC5 SNORM, -4445 and 4445, low byte first. -/
theorem test_ramp_lanes_low_byte_first :
    convert (.rampRg true) ⟨0xEEA3, 0x115D, 0, 0⟩ = [0xA3, 0xEE, 0x5D, 0x11] := by decide

/-- P4: two instances, one of which decodes something else before, end with the same lanes; `PX[8]` is transparent. -/
theorem test_program_p4 :
    ((Platform.actAll [0, 1, 1, 0]
      ⟨[{ State.reset with todo := [.decode ⟨7, blk [0x83, 0xA4, 0xF8, 0x1C, 0xCC, 0xCC, 0xAA, 0xAA]⟩, .readPx 8] },
        { State.reset with todo := [.decode ⟨2, blk [0xFF, 0x37, 0x05, 0x39, 0x77, 0x05, 0x39, 0x77]⟩,
          .decode ⟨7, blk [0x83, 0xA4, 0xF8, 0x1C, 0xCC, 0xCC, 0xAA, 0xAA]⟩] }]⟩).map
      fun pl => (pl.units.map (·.px[8]), pl.units.map (·.px[0].c0))) =
    some ([⟨0, 0, 0, 0⟩, ⟨0, 0, 0, 0⟩], [132, 132]) := by decide +kernel

/-! The primitives, 95_test_vectors section 2. -/

theorem test_bfx_words :
    be64 0xF0 0x88 0x0F 0x74 0xCC 0xCC 0xAA 0xAA = 0xF0880F74CCCCAAAA ∧
    le64 0xF0 0x88 0x0F 0x74 0xCC 0xCC 0xAA 0xAA = 0xAAAACCCC740F88F0 := by decide
theorem test_bfx_bits :
    bits 0xF0880F74CCCCAAAA 60 63 = 15 ∧ bits 0xF0880F74CCCCAAAA 56 59 = 0 ∧ bits 0xF0880F74CCCCAAAA 37 39 = 3 ∧
    bits 0xF0880F74CCCCAAAA 34 36 = 5 ∧ bit 0xF0880F74CCCCAAAA 33 = 0 := by decide
theorem test_bfx_reversed :
    bits128 (join128 0x8000000000000000 0) 63 64 = some 1 ∧ bits128 (join128 0x8000000000000000 0) 64 63 = some 2 ∧
    bits128 (join128 0x8000000000000000 1) 63 64 = some 3 ∧ bits128 0 128 0 = none := by decide +kernel
theorem test_bfx_sext : [4, 5, 6, 7].map (sext 3) = [-4, -3, -2, -1] ∧ sext 5 18 = -14 ∧ sext 10 1023 = -1 := by decide
theorem test_bfx_widen :
    ext4 7 = 119 ∧ ext5 15 = 123 ∧ ext6 31 = 125 ∧ ext7 63 = 126 ∧ rep8 22 5 = 181 ∧ rep8 33 6 = 134 ∧
    ext11u 996 = 0x7C8F ∧ laneZ (ext11s (-1023)) = 0x8011 ∧ laneZ (ext11s (-1)) = 0xFFE0 := by decide
theorem test_bfx_shift : shr (-1) 2 = -1 ∧ shr (-5) 2 = -2 ∧ shr (-118) 2 = -30 ∧ shr (-33) 6 = -1 := by decide

/-! The parameters: the other settings (44_bc4_bc5 R212, 41_etc1_etc2 R127), and a BC6H delta that wraps (46_bc6h R257). -/

/-- The ramp of `80 7F` without the clamp. -/
theorem test_snorm_without_clamp :
    (List.range 8).map (ramp35 ⟨false, .draw, Config.Tables.printed⟩ true 0x7F80) = [-4480, 4445, -2695, -910, 875, 2660, -4445, 4445] := by decide
/-- The ramp of `80 7F` with the clamp. -/
theorem test_snorm_with_clamp :
    (List.range 8).map (ramp35 Config.Params.default true 0x7F80) = [-4445, 4445, -2667, -889, 889, 2667, -4445, 4445] := by
  decide
/-- V-ETC-11: a red sum of -1 gives 55 under `wrap8` and 255 under `wrap5` (log entry 18); a green sum of 34 gives 24. -/
theorem test_etc1_overflow_settings :
    etcOverflowBase ⟨true, .wrap8, Config.Tables.printed⟩ 0x1CE3000200000000 .r = 55 ∧
    etcOverflowBase ⟨true, .wrap5, Config.Tables.printed⟩ 0x1CE3000200000000 .r = 255 ∧
    etcOverflowBase ⟨true, .wrap8, Config.Tables.printed⟩ 0x00FB000000000000 .g = 24 := by decide
/-- The tables are a parameter (92_eei_decisions D26): with another modifier in row 0 the lanes of an ETC1 block differ, base 0
plus the modifier of index 0. -/
theorem test_other_tables :
    ((etc1Rgb8Pixels ⟨true, .draw, { Config.Tables.printed with etcMod := Config.tabEtcMod.set 0 #v[7, 8, -2, -8] }⟩ (blk []))[0],
      (etc1Rgb8Pixels Config.Params.default (blk []))[0]) = (⟨7, 7, 7, 0⟩, ⟨2, 2, 2, 0⟩) := by decide +kernel
/-- The identity of 00_scope R3. -/
theorem test_identity : identity.name = "BDU" ∧ identity.formats.length = 27 := by decide
/-- Unquantisation and output scaling, the examples of 46_bc6h R258, R259, R262, R263. -/
theorem test_bc6h_scaling :
    unqU 630 10 = 40352 ∧ unqU 1023 10 = 65535 ∧ unqU 1 6 = 1536 ∧ unqS (-394) 10 = -25248 ∧ unqS (-128) 8 = -32767 ∧
    finU 40226 = 0x4C1C ∧ finS (-25287) = 0xDFB0 ∧ finS (-1) = 0 := by decide

/-! Witnesses: for each obligation with hypotheses, values that meet them, at boundaries where there is a range. -/

theorem witness_StepRunsTheDecodedRequest :
    (State.reset.withFetchWord 8 0x1F).todo = .decode ⟨31, blk []⟩ :: [] ∧
    decodeTableWord 8 0x1F = some (.reserved31 (blk [])) ∧ (decodeTableWord 136 (2 ^ 133 - 1)).isSome = true := by
  decide +kernel
theorem witness_Answerable : Answerable State.reset 26 ∧ Answerable State.reset 0 ∧ UsesPrintedTables State.reset :=
  ⟨⟨by decide, fun _ => rfl⟩, ⟨by decide, fun _ => rfl⟩, rfl⟩
theorem witness_IdleUnitHoldsItsRegisters : State.reset.todo = [] := rfl
theorem witness_OnlyEncodingsAreAccepted :
    decodeBytes (List.replicate 17 0) = .ok (.etc1Rgb8 (blk [])) ∧ ([] : List Byte).length ≠ 17 ∧
    (natToBytes 17 (2 ^ 133 - 1)).length = 17 ∧ bytesToNat (natToBytes 17 (2 ^ 133)) = 2 ^ 133 := by decide +kernel
theorem witness_FormatFieldAndOperandBits : 0 < 2 ^ 133 ∧ 2 ^ 133 - 1 < 2 ^ 133 := by decide
theorem witness_RequestCodesNameTheRows :
    (20 : FmtCode) ∈ [(0 : FmtCode), 1, 2, 5, 6, 7, 8, 11, 12, 13, 14, 19, 20] ∧
    (26 : FmtCode) ∈ [(3 : FmtCode), 4, 9, 10, 15, 16, 17, 18, 21, 22, 23, 24, 25, 26] := by decide
theorem witness_ResetEventClearsTheStatus :
    ∃ s t, perform .reset s = .next t ∧ s.err = true ∧ t.err = false :=
  ⟨{ State.reset with err := true }, State.reset, rfl, rfl, rfl⟩
theorem witness_ReadsAnswerAndChangeNothing :
    (∃ t, after [.decode ⟨11, blk []⟩] = some t ∧ t.valid = true) ∧ State.reset.valid = false :=
  ⟨⟨_, rfl, rfl⟩, rfl⟩
theorem witness_ReservedRequestsTakeIllegalFormat :
    Instr.reserved31 (blk []) ∈ [.reserved27 (blk []), .reserved28 (blk []), .reserved29 (blk []), .reserved30 (blk []),
      .reserved31 (blk [])] ∧ legalCode 27 = false ∧ legalCode 31 = false := by decide
theorem witness_DecodeStepDeliversDecodeFn : Answerable State.reset 0 ∧ Answerable State.reset 26 ∧ legalCode 27 = false ∧
    legalCode 31 = false := ⟨witness_Answerable.2.1, witness_Answerable.1, by decide, by decide⟩
theorem witness_ResponseDependsOnTheUsedBytesOnly :
    Answerable State.reset 19 ∧ SameBytes (blk []) (blk [0, 0, 0, 0, 0, 0, 0, 0, 1]) 0 (blockBytes 19) ∧
    blk [] ≠ blk [0, 0, 0, 0, 0, 0, 0, 0, 1] ∧ SameBytes (blk [7]) (blk [7]) 0 (blockBytes 26) := by
  have e : blockBytes 19 = 8 := by decide
  refine ⟨⟨by decide, fun _ => rfl⟩, fun k _ h => ?_, by decide, fun _ _ _ => rfl⟩
  rw [e] at h
  interval_cases k <;> decide
theorem witness_PropertiesOfRuns :
    (∀ q ∈ [(⟨0, blk []⟩ : Request)] ++ [⟨26, blk []⟩], Answerable State.reset q.fmt) ∧
    (∀ q ∈ [(⟨27, blk []⟩ : Request)] ++ [⟨24, blk []⟩], legalCode q.fmt = true → Answerable State.reset q.fmt) ∧
    (∃ s t : State, Action.reset ∉ [Action.decode ⟨30, blk []⟩, .readStatus] ∧ s.err = true ∧
      performAll [.decode ⟨30, blk []⟩, .readStatus] s = .next t) :=
  ⟨fun _ h => ⟨by revert h; simp only [List.mem_append, List.mem_singleton]; rintro (rfl | rfl) <;> decide, fun _ => rfl⟩,
    fun _ _ h => ⟨h, fun _ => rfl⟩, { State.reset with err := true }, _, by decide, rfl, rfl⟩

/-- A state with a response in `PX` and one more request to come. -/
def responding : State :=
  { State.reset with
    fmt := 11
    px := pixels fun _ => ⟨0, 0, 0, 255⟩
    valid := true
    todo := [.decode ⟨24, blk [0x13]⟩] }

theorem witness_EveryStepKeepsTheResponse :
    ResponseHolds responding ∧ ValidMeansLegal responding ∧ responding.valid = true ∧ ∃ t, step responding = .next t ∧
      t.valid = true :=
  ⟨fun _ => by decide +kernel, fun _ => by decide, rfl, _, rfl, rfl⟩
theorem witness_EveryStepKeepsTheLaneRanges : UsesPrintedTables responding ∧ LanesInRange responding ∧ responding.valid = true ∧
    ∃ t, step responding = .next t ∧ t.valid = true :=
  ⟨rfl, fun _ p => by fin_cases p <;> exact ⟨by decide, by decide, by decide, by decide⟩, rfl, _, rfl, rfl⟩
theorem witness_NoStepWritesTheTables :
    (∃ t, perform .reset responding = .next t) ∧ (∃ t, step responding = .next t) ∧
    ∃ t, performAll [.reset, .readStatus] responding = .next t := ⟨⟨_, rfl⟩, ⟨_, rfl⟩, ⟨_, rfl⟩⟩
theorem witness_ExtractionForwardAndReversed :
    (63 ≤ 64 ∧ 64 ≤ 127) ∧ (127 ≤ 127 ∧ 64 ≤ 127) ∧ (0 ≤ 63 ∧ 63 ≤ 63) ∧ 63 < 64 ∧ 127 < 128 := by decide
theorem witness_SignExtensionIsTwosComplement :
    1 ≤ 1 ∧ Nat.testBit 1 (1 - 1) = true ∧ Nat.testBit 2 (1 - 1) = false ∧ sext 1 1 = -1 := by decide
theorem witness_BitReplication : 15 < 16 ∧ 127 < 128 ∧ 255 < 2 ^ 8 ∧ 8 ∈ [4, 5, 6, 7, 8] := by decide
theorem witness_ElevenBitWidening : 2047 < 2048 ∧ (-1023 : Int) ≤ -1023 ∧ (1023 : Int) ≤ 1023 := by decide
/-- An individual block, and a differential one whose sums are 31, 0 and 0. -/
theorem witness_Etc2AgreesWithEtc1InRange :
    etcDiffBit (blk []) 0 = 0 ∧ etcDiffBit (blk [0xF8, 0, 0, 2]) 0 = 1 ∧ SumOk (blk [0xF8, 0, 0, 2]) 0 .r ∧
    SumOk (blk [0xF8, 0, 0, 2]) 0 .g ∧ SumOk (blk [0xF8, 0, 0, 2]) 0 .b ∧ etcSumOf (blk [0xF8, 0, 0, 2]) 0 .r = 31 :=
  ⟨by decide, by decide, ⟨by decide, by decide⟩, ⟨by decide, by decide⟩, ⟨by decide, by decide⟩, by decide⟩
/-- An opaque differential block, and a planar block with the bit clear: the blue sum is -1. -/
theorem witness_PunchThroughAgainstEtc2 :
    etcDiffBit (blk [0xF8, 0, 0, 2]) 0 = 1 ∧ sumMode (blk [0, 0, 7]) 0 = .planar ∧ etcDiffBit (blk [0, 0, 7]) 0 = 0 := by decide
/-- Two settings of `P_ETC1_OVF` over one set of tables, and a block with a red overflow, pixel 3 in its second sub-block, where green is in range. -/
theorem witness_Etc1OverflowStaysInItsChannel :
    State.reset.params.tables = ({ State.reset with params := ⟨true, .wrap5, Config.Tables.printed⟩ } : State).params.tables ∧
    etcSumOf (blk [7, 0, 0, 2]) 0 .r = -1 ∧ etcSecond (blk [7, 0, 0, 2]) 0 3 = true ∧
    etcSecond (blk [7, 0, 0, 2]) 0 1 = false ∧ SumOk (blk [7, 0, 0, 2]) 0 .g :=
  ⟨rfl, by decide, by decide, by decide, ⟨by decide, by decide⟩⟩
theorem witness_PalettesRunBetweenTheirEndpoints :
    65535 < 65536 ∧ (Rgba.g ∈ [Rgba.r, Rgba.g, Rgba.b]) ∧ 255 < 256 ∧ 255 > 0 ∧ 0 ≤ 255 :=
  ⟨by decide, by simp, by decide, by decide, by decide⟩
theorem witness_RampChannelsAreIndependentAndExact :
    SameBytes (blk [1, 2]) (blk [1, 2, 0, 0, 0, 0, 0, 0, 9]) 0 8 ∧ SameBytes (blk [1]) (blk [2]) 8 16 ∧
    (-128 : Int) < -127 ∧ (0 : Int) ≤ 0 :=
  ⟨fun k _ h => by interval_cases k <;> decide, fun k h _ => by interval_cases k <;> decide, by decide, by decide⟩
theorem witness_TablesPassTheirChecks : 63 < 64 ∧ 15 < 2 ^ 4 ∧ 4 ∈ [2, 3, 4] ∧ 15 < 16 ∧ 3 < 4 := by decide
theorem witness_InterpolationStaysBetweenItsEnds : 64 ≤ 64 ∧ interp 255 0 64 = 0 ∧ interp (-100) 100 9 = -72 := by decide
theorem witness_IndexStreamsEndWithTheBlock :
    (Config.bc6hModes[13]?.isSome = true) ∧ 31 < 32 ∧ (Config.bc7Modes[0]?.map (·.pb)) = some 4 ∧ 15 < 2 ^ 4 ∧
    (Config.bc7Modes[4]?.map (·.n2)) = some 3 := by decide
theorem witness_Bc6hModeOfTheFirstByte : 255 < 256 ∧ 255 % 32 = 0x1F ∧ 0xF2 % 32 = 4 * 4 + 2 ∧ 0x0F % 32 = 4 * 3 + 3 := by
  decide
/-- Of m13: bit 44 is bit 10 of the first red base and bit 39 its bit 15; a block with bit 39 alone has the value `2^15` there. -/
theorem witness_Bc6hLayoutsCoverTheirHeaders :
    (Config.bc6hModes[13]?.map (·.ns)) = some 1 ∧ (Config.bc6hModes[0]?.map (·.ns)) = some 2 ∧ 13 < 14 ∧
    (Config.bc6hModes[13]?.bind (fieldBitAt · 44)) = some (.ep 0 .r, 10) ∧
    (Config.bc6hModes[13]?.bind (fieldBitAt · 39)) = some (.ep 0 .r, 15) ∧
    (Config.bc6hModes[0]?.bind (fieldBitAt · 2)) = some (.ep 2 .g, 4) ∧ (bc6hPositions0.bitsOf (.ep 2 .g))[4]? = some 2 ∧
    (Config.bc6hModes[13]?.bind (headerField (2 ^ 39) · (.ep 0 .r))) = some (2 ^ 15) := by decide +kernel
theorem witness_Bc6hReservedModesAreBlack :
    UsesPrintedTables State.reset ∧ byte (blk [0x13]) 0 % 32 ∈ [0x13, 0x17, 0x1B, 0x1F] ∧ byte (blk [0xFF]) 0 % 32 ∈ [0x13, 0x17, 0x1B, 0x1F] := ⟨rfl, by decide, by decide⟩
theorem witness_Bc6hRequestsFromTheirFields :
    UsesPrintedTables State.reset ∧ bc6hMode Config.Tables.printed (byte (blk []) 0) = Config.bc6hModes[0]? ∧
    bc6hMode Config.Tables.printed (byte (blk [0x0F]) 0) = Config.bc6hModes[13]? := ⟨rfl, by decide +kernel, by decide +kernel⟩
theorem witness_Bc6hWorkingRanges :
    (0 : Int) ≤ 2 ^ 16 - 1 ∧ (2 ^ 16 - 1 : Int) < 2 ^ 16 ∧ -2 ^ (6 - 1) ≤ (-32 : Int) ∧ (-32767 : Int) ≤ -2 ∧ (-2 : Int) < -1 := by
  decide
theorem witness_Bc7InvalidBlocksAreTransparent : byte (blk [0, 0xFF]) 0 = 0 := by decide
theorem witness_Bc7FieldPositions :
    (Config.bc7Modes[7]?.isSome = true) ∧ (bc7Positions[7]?.isSome = true) ∧ 7 < 8 := by decide
theorem witness_Bc7RequestsFromTheirFields :
    UsesPrintedTables State.reset ∧ Bc7InMode (blk [0x80]) 7 ∧ Bc7InMode (blk [0xFF]) 0 ∧ (Config.bc7Modes[7]?.isSome = true) ∧
    (bc7Positions[7]?.isSome = true) := ⟨rfl, rfl, rfl, rfl, rfl⟩
theorem witness_Bc7OpaqueModes : UsesPrintedTables State.reset ∧ 3 < 4 ∧ Bc7InMode (blk [0x18]) 3 := ⟨rfl, by decide, rfl⟩
theorem witness_SrgbRequestsEqualTheirTwins :
    (Instr.bc7Unorm (blk [1]), Instr.bc7Srgb (blk [1])) ∈
      [(Instr.etc2Rgb8 (blk [1]), Instr.etc2Srgb8 (blk [1])), (.bc7Unorm (blk [1]), .bc7Srgb (blk [1]))] ∧
    Answerable State.reset (Instr.bc7Unorm (blk [1])).code := ⟨by decide, by decide, fun _ => rfl⟩
theorem witness_IntermediateValuesStayInRange : 3 < 4 ∧ 255 ≤ 255 ∧ 64 ≤ 64 ∧
    (bc7Endpoint (b128 (blk [0x40])) 6 ⟨1, 0, 0, 0, 7, 7, .perEndpoint, 4, 0⟩ 1).isSome = true := by decide +kernel
theorem witness_TilerReady : TilerReady imageP3 destP3 ∧ walk imageP3.extent ≠ [] ∧ Answerable State.reset imageP3.fmt :=
  ⟨⟨by decide, by decide, by decide, rfl, rfl, rfl⟩, by decide, by decide, fun _ => rfl⟩
theorem witness_TilerWritesEveryPixel : TilerReady imageP3 destP3 ∧ 4 < imageP3.extent.w ∧ 2 < imageP3.extent.h ∧
    0 < imageP3.extent.d ∧ Answerable State.reset imageP3.fmt :=
  ⟨witness_TilerReady.1, by decide, by decide, by decide, witness_TilerReady.2.2⟩
theorem witness_ConversionStoresTheLanes :
    Layout.rgb8 true ∈ canonicalLayouts 6 ∧ Layout.rgba8 false ∈ canonicalLayouts 7 ∧ Layout.rgba8 true ∈ canonicalLayouts 26 ∧
    Layout.r16 true ∈ canonicalLayouts 2 ∧ Layout.rg16 false ∈ canonicalLayouts 3 ∧ Layout.rgbHalf ∈ canonicalLayouts 24 ∧
    Layout.rampR true ∈ canonicalLayouts 20 ∧ Layout.rampRg false ∈ canonicalLayouts 21 ∧
    Layout.requesters 22 ∈ canonicalLayouts 22 ∧ (Layout.rampRg true).texelBytes = some 4 := by decide
/-- Two instances share the blocks of P3; a third has none. -/
theorem witness_AnyInterleavingFillsTheDestination :
    ([⟨1, 0, 0⟩, ⟨0, 0, 0⟩] : List BlockPos).Perm (walk imageP3.extent) ∧ TilerReady imageP3 destP3 ∧
    Answerable State.reset imageP3.fmt ∧
    ∀ k, (List.replicate 17 1 ++ List.replicate 17 0).count k =
      (([(State.reset, [(⟨1, 0, 0⟩ : BlockPos)]), (State.reset, [(⟨0, 0, 0⟩ : BlockPos)]), (State.reset, [])][k]?.map fun w => w.2.length).getD
        0) * 17 := by
  refine ⟨by decide, witness_TilerReady.1, witness_TilerReady.2.2, fun k => ?_⟩
  rcases k with _ | _ | _ | k
  · decide
  · decide
  · decide
  · simp
/-- Each precondition fails alone. -/
theorem witness_TilerStopsOnAFailedPrecondition :
    ¬ TilerReady { imageP3 with fmt := 27 } destP3 ∧ ¬ TilerReady imageP3 { destP3 with layout := .rgb8 false } ∧
    ¬ TilerReady imageP3 { destP3 with texels := List.replicate 15 [] } ∧
    ¬ TilerReady imageP3 { destP3 with extent := ⟨8, 4, 1⟩ } ∧ ¬ TilerReady imageP3 { destP3 with texels := [] } ∧
    ¬ TilerReady { imageP3 with packed := [] } destP3 :=
  ⟨fun h => absurd h.1 (by decide), fun h => absurd h.2.1 (by decide), fun h => absurd h.2.2.1 (by decide),
    fun h => absurd h.2.2.2.1 (by decide), fun h => absurd h.2.2.2.2.1 (by decide), fun h => absurd h.2.2.2.2.2 (by decide)⟩
theorem witness_InstancesShareNothing :
    ∃ pl pl', Platform.actAll [0, 1, 0] pl = some pl' ∧ pl.units[1]? = some responding :=
  ⟨⟨[responding, responding]⟩, _, rfl, rfl⟩

end Sys2Proof.Tests
end

section
/-! PROOFS. With the printed tables the BC6H and BC7 decoders answer every block: no extraction leaves the 128 bits
(60_exceptions R354, 92_eei_decisions D26). -/

namespace Sys2Proof.Proofs

open Sys2Proof Sys2Proof.Machine Sys2Proof.Laws

/-! Index streams (45_shared_tables R237, R238): an anchor saves one bit, and the printed partitions have one anchor per subset. -/

/-- The widths of the indices of some pixels fall short of `n` bits each by one bit per anchor. -/
theorem sum_indexWidth_add_anchors (T : Config.Tables) {n : Nat} (hn : 1 ≤ n) (ns part : Nat) (ps : List Nat) :
    (ps.map (indexWidth T n ns part)).sum + ps.countP (isAnchor T ns part) = n * ps.length := by
  induction ps with
  | nil => rfl
  | cons p ps ih =>
    rw [List.map_cons, List.sum_cons, List.countP_cons, List.length_cons, Nat.mul_succ, indexWidth]
    split <;> omega

/-- With one subset pixel 0 is the only anchor, whatever the tables. -/
theorem anchors_one_subset (T : Config.Tables) (part : Nat) : (List.range 16).countP (isAnchor T 1 part) = 1 := by
  have h : isAnchor T 1 part = fun p => decide (p = 0) := by
    funext p
    simp [isAnchor]
  rw [h]
  rfl

/-- Every printed partition of two or three subsets has one anchor per subset. -/
theorem anchors_printed : ∀ part < 64,
    (List.range 16).countP (isAnchor Config.Tables.printed 2 part) = 2 ∧
    (List.range 16).countP (isAnchor Config.Tables.printed 3 part) = 3 := by
  decide

/-- The subset counts and partition numbers for which the printed tables give one anchor per subset. -/
def OneAnchorEach (ns part : Nat) : Prop := ns = 1 ∨ (ns = 2 ∨ ns = 3) ∧ part < 64

theorem anchors_eq {ns part : Nat} (h : OneAnchorEach ns part) :
    (List.range 16).countP (isAnchor Config.Tables.printed ns part) = ns := by
  obtain rfl | ⟨rfl | rfl, hp⟩ := h
  · exact anchors_one_subset _ part
  · exact (anchors_printed part hp).1
  · exact (anchors_printed part hp).2

/-- An index stream with room for its `16 n - ns` bits answers sixteen indices and ends right after them. -/
theorem indexStream_printed (b : Word128) {start n ns part : Nat} (hn : 2 ≤ n) (hp : OneAnchorEach ns part)
    (h : start + (16 * n - ns) ≤ 128) :
    ∃ idx, indexStream Config.Tables.printed b start n ns part = some (idx, start + (16 * n - ns)) ∧ idx.length = 16 := by
  have hsum := sum_indexWidth_add_anchors Config.Tables.printed (by omega : 1 ≤ n) ns part (List.range 16)
  rw [anchors_eq hp, List.length_range] at hsum
  have hbits : ((List.range 16).map (indexWidth Config.Tables.printed n ns part)).sum = 16 * n - ns := by omega
  have := readIndices_some Config.Tables.printed b n ns part hn (List.range 16) start (by omega)
  rwa [hbits, List.length_range] at this

/-- A list of readings answers if each of them does. -/
theorem mapM_some {α β : Type} {f : α → Option β} {l : List α} (h : ∀ x ∈ l, ∃ y, f x = some y) :
    ∃ ys, l.mapM f = some ys := by
  induction l with
  | nil => exact ⟨[], rfl⟩
  | cons x xs ih =>
    obtain ⟨y, hy⟩ := h x List.mem_cons_self
    obtain ⟨ys, hys⟩ := ih fun z hz => h z (List.mem_cons_of_mem x hz)
    exact ⟨y :: ys, by simp [List.mapM_cons, hy, hys]⟩

/-! BC6H -/

/-- A layout cell inside the block can be read, forward or reversed (46_bc6h R253). -/
theorem cellValue_some (b : Word128) {c : Config.Cell} (hhi : c.hi ≤ 127) (hlo : c.lo ≤ 127) : ∃ v, cellValue b c = some v := by
  unfold cellValue
  split
  · obtain ⟨v, hv, -⟩ := bits128_some b hlo hhi
    exact ⟨_, by rw [hv]; rfl⟩
  · obtain ⟨v, hv, -⟩ := bits128_some b hhi hlo
    exact ⟨_, by rw [hv]; rfl⟩

/-- Cells that can be read have a sum. -/
theorem sumCells_some (b : Word128) {cs : List Config.Cell} (h : ∀ c ∈ cs, c.hi ≤ 127 ∧ c.lo ≤ 127) :
    ∃ v, sumCells b cs = some v := by
  induction cs with
  | nil => exact ⟨0, rfl⟩
  | cons c cs ih =>
    obtain ⟨hhi, hlo⟩ := h c List.mem_cons_self
    obtain ⟨v, hv⟩ := cellValue_some b hhi hlo
    obtain ⟨w, hw⟩ := ih fun c' hc' => h c' (List.mem_cons_of_mem c hc')
    exact ⟨v + w, by simp [sumCells, hv, hw]⟩

/-- What a BC6H mode must declare for its block to be read: its cells inside the block, the partition number in bits 81:77
of a two-subset mode, and room for the index stream (46_bc6h R254, R260). -/
structure Bc6hFits (m : Config.Bc6hMode) : Prop where
  cells : ∀ c ∈ m.cells, c.hi ≤ 127 ∧ c.lo ≤ 127
  subsets : m.ns = 1 ∨ m.ns = 2 ∧ (m.cells.filter fun c => c.field = .part) = [⟨81, 77, .part, 4, 0⟩]
  width : 2 ≤ m.n
  stream : bc6hStreamStart m + (16 * m.n - m.ns) ≤ 128

/-- Every printed BC6H mode fits. -/
theorem bc6hFits_printed {k : Nat} {m : Config.Bc6hMode} (h : Config.bc6hModes[k]? = some m) : Bc6hFits m := by
  have hfits : ∀ k : Fin 14, Bc6hFits Config.bc6hModes[k] := by
    intro k
    fin_cases k <;> constructor <;> decide
  obtain ⟨hk, rfl⟩ := Vector.getElem?_eq_some_iff.mp h
  exact hfits ⟨k, hk⟩

/-- A mode that a first byte selects is one of the table's. -/
theorem bc6hMode_row {T : Config.Tables} {b : Nat} {m : Config.Bc6hMode} (h : bc6hMode T b = some m) :
    ∃ k, bc6hModeNumber T b = some k ∧ T.bc6hModes[k]? = some m :=
  Option.bind_eq_some_iff.mp h

theorem headerField_some (b : Word128) {m : Config.Bc6hMode} (hm : Bc6hFits m) (f : Config.HeaderField) :
    ∃ v, headerField b m f = some v :=
  sumCells_some b fun c hc => hm.cells c (List.mem_of_mem_filter hc)

/-- The partition number that a fitting mode reads is one of the printed partitions. -/
theorem oneAnchorEach_of_headerField {b : Word128} {m : Config.Bc6hMode} (hm : Bc6hFits m) {part : Nat}
    (h : headerField b m .part = some part) : OneAnchorEach m.ns part := by
  obtain h1 | ⟨h2, hcells⟩ := hm.subsets
  · exact .inl h1
  · have hv : cellValue b ⟨81, 77, .part, 4, 0⟩ = some (slice b.toNat 77 81) := by
      simp [cellValue, bits128_forward]
    have hpart : slice b.toNat 77 81 = part := by
      simpa [headerField, hcells, sumCells, hv] using h
    have hlt := slice_lt b.toNat 77 81
    exact .inr ⟨.inl h2, by omega⟩

theorem bc6hEndpoint_some (signed : Bool) (b : Word128) {m : Config.Bc6hMode} (hm : Bc6hFits m) (i : Nat) (c : Channel) :
    ∃ v, bc6hEndpoint signed b m i c = some v := by
  obtain ⟨raw0, h0⟩ := headerField_some b hm (.ep 0 c)
  obtain ⟨rawI, hI⟩ := headerField_some b hm (.ep i c)
  exact ⟨_, by simp only [bc6hEndpoint, h0, hI, Option.bind_eq_bind, Option.bind_some]; rfl⟩

theorem bc6hUnq_some (signed : Bool) (b : Word128) {m : Config.Bc6hMode} (hm : Bc6hFits m) (i : Nat) :
    ∃ v, bc6hUnq signed b m i = some v := by
  obtain ⟨r, hr⟩ := bc6hEndpoint_some signed b hm i .r
  obtain ⟨g, hg⟩ := bc6hEndpoint_some signed b hm i .g
  obtain ⟨bl, hb⟩ := bc6hEndpoint_some signed b hm i .b
  exact ⟨_, by simp only [bc6hUnq, hr, hg, hb, Option.bind_eq_bind, Option.bind_some]; rfl⟩

theorem bc6hModeDecode_some (signed : Bool) (b : Word128) {m : Config.Bc6hMode} (hm : Bc6hFits m) :
    ∃ px, bc6hModeDecode Config.Tables.printed signed b m = some px := by
  obtain ⟨us, hus⟩ := mapM_some fun i (_ : i ∈ List.range (2 * m.ns)) => bc6hUnq_some signed b hm i
  obtain ⟨part, hpart⟩ := headerField_some b hm .part
  obtain ⟨idx, hidx, -⟩ := indexStream_printed b hm.width (oneAnchorEach_of_headerField hm hpart) hm.stream
  exact ⟨_, by simp only [bc6hModeDecode, hus, hpart, hidx, Option.bind_eq_bind, Option.bind_some]; rfl⟩

/-- With the printed tables every BC6H block is decoded, a reserved mode to black (46_bc6h R252, R264, R265). -/
theorem bc6hPixels_printed_some (signed : Bool) (d : Block) : ∃ px, bc6hPixels Config.Tables.printed signed d = some px := by
  unfold bc6hPixels
  split
  · exact ⟨_, rfl⟩
  · rename_i m hm
    obtain ⟨k, -, hk⟩ := bc6hMode_row hm
    exact bc6hModeDecode_some signed _ (bc6hFits_printed hk)

/-! BC7 -/

/-- What BC7 mode `m` must declare for its block to be read: every field inside the block, partition numbers of the printed
tables, and room for both index streams (47_bc7 R292, R293). -/
structure Bc7Fits (m : Nat) (c : Config.Bc7Mode) : Prop where
  part : partAt m + c.pb ≤ 128
  rot : rotAt m c + c.rot ≤ 128
  isel : iselAt m c + c.isel ≤ 128
  colour : ∀ k < 3, ∀ e < 2 * c.ns, colourAt m c k e + c.cb ≤ 128
  alpha : ∀ e < 2 * c.ns, alphaAt m c e + c.ab ≤ 128
  pBits : ∀ e < 2 * c.ns, pAt m c e + 1 ≤ 128
  subsets : c.ns = 1 ∨ (c.ns = 2 ∨ c.ns = 3) ∧ c.pb ≤ 6
  width1 : 2 ≤ c.n1
  stream1 : streamAt m c + (16 * c.n1 - c.ns) ≤ 128
  stream2 : c.n2 = 0 ∨ 2 ≤ c.n2 ∧ streamAt m c + (16 * c.n1 - c.ns) + (16 * c.n2 - 1) ≤ 128

/-- Every printed BC7 mode fits. -/
theorem bc7Fits_printed {m : Nat} {c : Config.Bc7Mode} (h : Config.bc7Modes[m]? = some c) : Bc7Fits m c := by
  have hfits : ∀ m : Fin 8, Bc7Fits m Config.bc7Modes[m] := by
    intro m
    fin_cases m <;> constructor <;> decide
  obtain ⟨hm, rfl⟩ := Vector.getElem?_eq_some_iff.mp h
  exact hfits ⟨m, hm⟩

/-- A field inside the block can be read, and fits its width (47_bc7 R298). -/
theorem bc7Field_some (b : Word128) {start w : Nat} (h : start + w ≤ 128) : ∃ v, bc7Field b start w = some v ∧ v < 2 ^ w := by
  unfold bc7Field
  split
  · rename_i h0
    exact ⟨0, rfl, by rw [h0]; decide⟩
  · refine ⟨_, bits128_forward b (by omega) (by omega), ?_⟩
    have hw : start + w - 1 - start + 1 = w := by omega
    simpa only [hw] using slice_lt b.toNat start (start + w - 1)

theorem pBit_some (b : Word128) {m : Nat} {c : Config.Bc7Mode} (hc : Bc7Fits m c) {e : Nat} (he : e < 2 * c.ns) :
    ∃ p, pBit b m c e = some p := by
  unfold pBit
  split
  · exact ⟨0, rfl⟩
  · obtain ⟨p, hp, -⟩ := bc7Field_some b (hc.pBits e he)
    exact ⟨p, hp⟩
  · obtain ⟨p, hp, -⟩ := bc7Field_some b (hc.pBits (e / 2) (by omega))
    exact ⟨p, hp⟩

theorem bc7Endpoint_some (b : Word128) {m : Nat} {c : Config.Bc7Mode} (hc : Bc7Fits m c) {e : Nat} (he : e < 2 * c.ns) :
    ∃ v, bc7Endpoint b m c e = some v := by
  obtain ⟨r, hr, -⟩ := bc7Field_some b (hc.colour 0 (by decide) e he)
  obtain ⟨g, hg, -⟩ := bc7Field_some b (hc.colour 1 (by decide) e he)
  obtain ⟨bl, hb, -⟩ := bc7Field_some b (hc.colour 2 (by decide) e he)
  obtain ⟨a, ha, -⟩ := bc7Field_some b (hc.alpha e he)
  obtain ⟨p, hp⟩ := pBit_some b hc he
  exact ⟨_, by simp only [bc7Endpoint, hr, hg, hb, ha, hp, Option.bind_eq_bind, Option.bind_some]; rfl⟩

/-- The partition number that a fitting mode reads is one of the printed partitions. -/
theorem oneAnchorEach_of_lt {m : Nat} {c : Config.Bc7Mode} (hc : Bc7Fits m c) {part : Nat} (h : part < 2 ^ c.pb) :
    OneAnchorEach c.ns part := by
  obtain h1 | ⟨h23, hpb⟩ := hc.subsets
  · exact .inl h1
  · exact .inr ⟨h23, h.trans_le (Nat.pow_le_pow_right (by decide) hpb)⟩

theorem bc7SecondStream_some (b : Word128) {m : Nat} {c : Config.Bc7Mode} (hc : Bc7Fits m c) :
    ∃ r, bc7SecondStream Config.Tables.printed b c (streamAt m c + (16 * c.n1 - c.ns)) = some r := by
  unfold bc7SecondStream
  split
  · exact ⟨_, rfl⟩
  · obtain h0 | ⟨hw, hroom⟩ := hc.stream2
    · contradiction
    · obtain ⟨idx, hidx, -⟩ := indexStream_printed b (part := 0) hw (.inl rfl) hroom
      exact ⟨_, hidx⟩

theorem bc7ModeDecode_some (b : Word128) {m : Nat} {c : Config.Bc7Mode} (hc : Bc7Fits m c) :
    ∃ px, bc7ModeDecode Config.Tables.printed b m c = some px := by
  obtain ⟨part, hpart, hlt⟩ := bc7Field_some b hc.part
  obtain ⟨rot, hrot, -⟩ := bc7Field_some b hc.rot
  obtain ⟨isel, hisel, -⟩ := bc7Field_some b hc.isel
  obtain ⟨es, hes⟩ := mapM_some fun e he => bc7Endpoint_some b hc (List.mem_range.mp he)
  obtain ⟨idx1, h1, -⟩ := indexStream_printed b hc.width1 (oneAnchorEach_of_lt hc hlt) hc.stream1
  obtain ⟨idx2, h2⟩ := bc7SecondStream_some b hc
  exact ⟨_, by simp only [bc7ModeDecode, hpart, hrot, hisel, hes, h1, h2, Option.bind_eq_bind, Option.bind_some]; rfl⟩

/-- With the printed tables every BC7 block is decoded, an invalid one to transparent black (47_bc7 R291, R303). -/
theorem bc7Pixels_printed_some (d : Block) : ∃ px, bc7Pixels Config.Tables.printed d = some px := by
  unfold bc7Pixels
  split
  · exact ⟨_, rfl⟩
  · rename_i m hm
    have hlt : m < 8 := List.mem_range.mp (List.mem_of_find?_eq_some hm)
    have hget : Config.bc7Modes[m]? = some Config.bc7Modes[m] := Vector.getElem?_eq_getElem hlt
    change ∃ px, Config.bc7Modes[m]?.bind _ = some px
    rw [hget]
    exact bc7ModeDecode_some (b128 d) (bc7Fits_printed hget)

end Sys2Proof.Proofs
end

section
/-! PROOFS. The `Decode` step as one equation over all 32 codes, and what it delivers (10_state R27). -/

namespace Sys2Proof.Proofs

open Sys2Proof Sys2Proof.Machine Sys2Proof.Safety Sys2Proof.Claims Sys2Proof.Laws

/-- A case split over the 32 values of `FMT` (10_state R21). -/
theorem fmtCode_cases {p : FmtCode → Prop} (h : ∀ (n : Nat) (hn : n < 32), p (BitVec.ofNatLT n hn)) (fmt : FmtCode) : p fmt :=
  h fmt.toNat fmt.isLt

/-- The `Decode` step of every request: a legal code delivers what `decodeFn` answers, a reserved one raises
`IllegalFormat`. -/
theorem exec_decodeRequest (r : Request) (s : State) :
    exec (decodeRequest r) s =
      if legalCode r.fmt then runDecodeChecked r.fmt r.d (decodeFn s.params r.fmt) s
      else .next (s.raiseIllegalFormat r.fmt r.d) := by
  obtain ⟨fmt, d⟩ := r
  induction fmt using fmtCode_cases with
  | h n hn => interval_cases n <;> rfl

/-- What a `Decode` step can do, if it answers a next state. -/
theorem exec_decodeRequest_next {r : Request} {s t : State} (h : exec (decodeRequest r) s = .next t) :
    (legalCode r.fmt = true ∧ ∃ px, decodeFn s.params r.fmt r.d = some px ∧
      t = { s with fmt := r.fmt, blk := r.d, px := px, valid := true }) ∨
    (legalCode r.fmt = false ∧ t = s.raiseIllegalFormat r.fmt r.d) := by
  rw [exec_decodeRequest] at h
  split at h
  · rename_i hl
    exact .inl ⟨hl, runDecodeChecked_next h⟩
  · rename_i hl
    injection h with h
    exact .inr ⟨Bool.eq_false_iff.mpr hl, h.symm⟩

/-- A legal request that `decodeFn` answers: the whole next state. -/
theorem exec_legal {r : Request} {s : State} {px : Pixels} (hl : legalCode r.fmt = true)
    (hpx : decodeFn s.params r.fmt r.d = some px) :
    exec (decodeRequest r) s = .next { s with fmt := r.fmt, blk := r.d, px := px, valid := true } := by
  rw [exec_decodeRequest, if_pos hl]
  exact runDecodeChecked_eq s hpx

/-- A reserved request: the whole next state. -/
theorem exec_reserved {r : Request} (hl : legalCode r.fmt = false) (s : State) :
    exec (decodeRequest r) s = .next (s.raiseIllegalFormat r.fmt r.d) := by
  rw [exec_decodeRequest, hl]
  rfl

/-- `decodeFn` is total on the legal codes: the decoders of codes 0 to 22 by their type, those of BC6H and BC7 with the printed
tables. -/
theorem decodeFn_some {P : Config.Params} {fmt : FmtCode} (hl : legalCode fmt = true)
    (hT : 22 < fmt.toNat → P.tables = Config.Tables.printed) (d : Block) : ∃ px, decodeFn P fmt d = some px := by
  have h26 : fmt.toNat ≤ 26 := by simpa [legalCode] using hl
  by_cases h : 22 < fmt.toNat
  · have h6 : ∀ signed, ∃ px, bc6hPixels P.tables signed d = some px := fun signed => hT h ▸ bc6hPixels_printed_some signed d
    have h7 : ∃ px, bc7Pixels P.tables d = some px := hT h ▸ bc7Pixels_printed_some d
    unfold decodeFn
    generalize fmt.toNat = n at h h26
    interval_cases n
    · exact h6 false
    · exact h6 true
    · exact h7
    · exact h7
  · unfold decodeFn
    generalize fmt.toNat = n at h
    have h22 : n ≤ 22 := by omega
    interval_cases n <;> exact ⟨_, rfl⟩

/-- A request the model speaks of completing is answered, whatever the registers hold. -/
theorem decodeFn_of_answerable {s : State} {fmt : FmtCode} (h : Answerable s fmt) (d : Block) :
    ∃ px, decodeFn s.params fmt d = some px :=
  decodeFn_some h.1 h.2 d

/-- Settles O12, by the equation of the `Decode` step and the totality of `decodeFn`. -/
theorem decodeStepDeliversDecodeFn : Obligations.DecodeStepDeliversDecodeFn := by
  refine ⟨fun r s h => ?_, fun r s h => ?_⟩
  · obtain ⟨px, hpx⟩ := decodeFn_of_answerable h r.d
    exact ⟨px, hpx, exec_legal h.1 hpx⟩
  · exact ⟨_, exec_reserved h s, by simp⟩

/-! The response and its code belong together -/

/-- Whoever clears `VALID` keeps both invariants. -/
theorem response_of_not_valid {t : State} (h : t.valid = false) : ResponseHolds t ∧ ValidMeansLegal t := by
  constructor <;> (intro hv; rw [h] at hv; cases hv)

/-- A `Decode` step establishes both invariants, whatever held before. -/
theorem exec_response {r : Request} {s t : State} (h : exec (decodeRequest r) s = .next t) :
    ResponseHolds t ∧ ValidMeansLegal t := by
  obtain ⟨hl, px, hpx, rfl⟩ | ⟨-, rfl⟩ := exec_decodeRequest_next h
  · exact ⟨fun _ => hpx, fun _ => hl⟩
  · exact response_of_not_valid (raiseIllegalFormat_valid s r.fmt r.d)

/-- Every action keeps both invariants: a read changes no register, `RESET` clears `VALID`, and a `Decode` step establishes
them. -/
theorem perform_response {a : Action} {s t : State} (hr : ResponseHolds s) (hl : ValidMeansLegal s)
    (h : perform a s = .next t) : ResponseHolds t ∧ ValidMeansLegal t := by
  obtain ⟨-, rfl⟩ | ⟨r, -, hexec⟩ | ⟨p, -, -, rfl⟩ | ⟨-, rfl⟩ := perform_next h
  · exact response_of_not_valid (resetUnit_valid s)
  · exact exec_response hexec
  · exact ⟨hr, hl⟩
  · exact ⟨hr, hl⟩

/-- Settles O15: an idle step changes nothing, and the requester's list is no part of the invariants. -/
theorem everyStepKeepsTheResponse : Obligations.EveryStepKeepsTheResponse := by
  intro s t hr hl h
  obtain ⟨-, rfl⟩ | ⟨a, rest, -, ha⟩ := step_next h
  · exact ⟨hr, hl⟩
  · exact perform_response (s := { s with todo := rest }) hr hl ha

/-- Settles O17: after reset `VALID` is 0, and the default tables are the printed ones. -/
theorem invariantsHoldAfterReset : Obligations.InvariantsHoldAfterReset := by
  obtain ⟨hr, hl⟩ := response_of_not_valid reset_valid
  refine ⟨hr, hl, ?_, fun hv => ?_⟩
  · rw [UsesPrintedTables, reset_params]
    rfl
  · rw [reset_valid] at hv
    cases hv

/-! Reads -/

/-- A read of `PX` with a response in it (10_state R30). -/
theorem perform_readPx_valid {s : State} (h : s.valid = true) (p : Fin 16) :
    perform (.readPx p) s = .next { s with reads := .px p s.px[p] :: s.reads } := by
  have hv : s.readPx p = some s.px[p] := readPx_eq_some.mpr ⟨h, rfl⟩
  simp only [perform, hv]
  rfl

/-- A read of `PX` without a response (60_exceptions R353 (c)). -/
theorem perform_readPx_invalid {s : State} (h : s.valid = false) (p : Fin 16) :
    perform (.readPx p) s = .fault .readInvalidPx := by
  simp [perform, State.readPx, h]

/-- Settles O10: the two cases of `VALID`, and the read of the status bits by definition. -/
theorem readsAnswerAndChangeNothing : Obligations.ReadsAnswerAndChangeNothing :=
  ⟨fun _ p h => perform_readPx_valid h p, fun _ p h => perform_readPx_invalid h p, fun _ => rfl⟩

/-- Settles O8: `PX` is not readable because `VALID` is 0. -/
theorem statusAfterReset : Obligations.StatusAfterReset :=
  ⟨reset_valid, reset_err, perform_readPx_invalid reset_valid⟩

end Sys2Proof.Proofs
end

section
/-! PROOFS. Bytes and bits: a byte string as a number, the words of a block (10_state R23), and the bytes a request uses
(10_state R28). -/

namespace Sys2Proof.Proofs

open Sys2Proof Sys2Proof.Machine Sys2Proof.Claims Sys2Proof.Laws

/-- Bit `n` of a byte string read as a little-endian number is bit `n % 8` of byte `n / 8`. -/
theorem bytesToNat_testBit (bs : List Byte) (n : Nat) :
    (bytesToNat bs).testBit n = (bs.getD (n / 8) 0).getLsbD (n % 8) := by
  induction bs generalizing n with
  | nil => simp [bytesToNat]
  | cons b bs ih =>
    have hb := b.isLt
    have hsplit : bytesToNat (b :: bs) = 2 ^ 8 * bytesToNat bs + b.toNat := by
      rw [bytesToNat]
      omega
    rw [hsplit, Nat.testBit_two_pow_mul_add _ hb]
    split
    · rename_i hn
      rw [Nat.div_eq_of_lt hn, Nat.mod_eq_of_lt hn]
      rfl
    · rename_i hn
      obtain ⟨m, rfl⟩ : ∃ m, n = m + 8 := ⟨n - 8, by omega⟩
      rw [ih, Nat.add_sub_cancel, Nat.add_div_right m (by decide), Nat.add_mod_right, List.getD_cons_succ]

/-- The bits of the first `k` bytes of a number: the bits above them are cut off. -/
theorem bytesToNat_natToBytes (k n : Nat) : bytesToNat (natToBytes k n) = n % 256 ^ k := by
  induction k generalizing n with
  | zero => simp [natToBytes, bytesToNat, Nat.mod_one]
  | succ k ih =>
    rw [natToBytes, bytesToNat, ih, BitVec.toNat_ofNat, pow_succ' 256 k, Nat.mod_mul]

/-- A little-endian word is its eight bytes, read as a number. -/
theorem le64_toNat_bytes (b0 b1 b2 b3 b4 b5 b6 b7 : Byte) :
    (le64 b0 b1 b2 b3 b4 b5 b6 b7).toNat = bytesToNat [b0, b1, b2, b3, b4, b5, b6, b7] := by
  rw [le64_toNat]
  simp only [bytesToNat]
  omega

/-- Bit `n` of a little-endian word stands in byte `n / 8`. -/
theorem le64_getLsbD (b0 b1 b2 b3 b4 b5 b6 b7 : Byte) (n : Nat) :
    (le64 b0 b1 b2 b3 b4 b5 b6 b7).getLsbD n = ([b0, b1, b2, b3, b4, b5, b6, b7].getD (n / 8) 0).getLsbD (n % 8) := by
  rw [← BitVec.testBit_toNat, le64_toNat_bytes, bytesToNat_testBit]

theorem lo_getLsbD (d : Block) (n : Fin 64) : (lo d).getLsbD n = d[n.val / 8].getLsbD (n.val % 8) := by
  have hget : ∀ i (h : i < 8), [d[0], d[1], d[2], d[3], d[4], d[5], d[6], d[7]].getD i 0 = d[i] := by
    intro i h
    interval_cases i <;> rfl
  rw [lo, le64_getLsbD, hget _ (by omega)]

theorem hi_getLsbD (d : Block) (n : Fin 64) : (hi d).getLsbD n = d[8 + n.val / 8].getLsbD (n.val % 8) := by
  have hget : ∀ i (h : i < 8), [d[8], d[9], d[10], d[11], d[12], d[13], d[14], d[15]].getD i 0 = d[8 + i] := by
    intro i h
    interval_cases i <;> rfl
  rw [hi, le64_getLsbD, hget _ (by omega)]

theorem w0_getLsbD (d : Block) (n : Fin 64) : (w0 d).getLsbD n = d[7 - n.val / 8].getLsbD (n.val % 8) := by
  have hget : ∀ i (h : i < 8), [d[7], d[6], d[5], d[4], d[3], d[2], d[1], d[0]].getD i 0 = d[7 - i] := by
    intro i h
    interval_cases i <;> rfl
  rw [w0, be64, le64_getLsbD, hget _ (by omega)]

theorem w1_getLsbD (d : Block) (n : Fin 64) : (w1 d).getLsbD n = d[15 - n.val / 8].getLsbD (n.val % 8) := by
  have hget : ∀ i (h : i < 8), [d[15], d[14], d[13], d[12], d[11], d[10], d[9], d[8]].getD i 0 = d[15 - i] := by
    intro i h
    interval_cases i <;> rfl
  rw [w1, be64, le64_getLsbD, hget _ (by omega)]

/-- `B128` is the pair of words as one number. -/
theorem b128_toNat (d : Block) : (b128 d).toNat = (lo d).toNat + (hi d).toNat * 2 ^ 64 := join128_toNat _ _

theorem block_toList (d : Block) : d.toList =
    [d[0], d[1], d[2], d[3], d[4], d[5], d[6], d[7], d[8], d[9], d[10], d[11], d[12], d[13], d[14], d[15]] := by
  apply List.ext_getElem
  · simp
  · intro i h _
    rw [Vector.length_toList] at h
    interval_cases i <;> rfl

/-- `B128` is the block read as a little-endian number. -/
theorem b128_toNat_bytes (d : Block) : (b128 d).toNat = blockNat d := by
  rw [b128_toNat, blockNat, block_toList, lo, hi, le64_toNat_bytes, le64_toNat_bytes]
  simp only [bytesToNat]
  omega

theorem b128_getLsbD (d : Block) (n : Fin 128) : (b128 d).getLsbD n = d[n.val / 8].getLsbD (n.val % 8) := by
  have hlt : n.val / 8 < d.toList.length := by rw [Vector.length_toList]; omega
  rw [← BitVec.testBit_toNat, b128_toNat_bytes, blockNat, bytesToNat_testBit, List.getD_eq_getElem _ _ hlt,
    Vector.getElem_toList]

/-- Settles O19, word by word. -/
theorem byteOrderOfTheWords : Obligations.ByteOrderOfTheWords := fun d =>
  ⟨fun n => ⟨w0_getLsbD d n, w1_getLsbD d n, lo_getLsbD d n, hi_getLsbD d n⟩, b128_getLsbD d, b128_toNat d, b128_toNat_bytes d⟩

/-! The bytes a request uses -/

/-- Agreement on a byte of the block. -/
theorem getElem_of_sameBytes {d d' : Block} {lo hi : Nat} (h : SameBytes d d' lo hi) {k : Nat} (hk : k < 16) (hlo : lo ≤ k)
    (hhi : k < hi) : d[k] = d'[k] := by
  have := h k hlo hhi
  simp only [byte, hk, dite_true] at this
  exact BitVec.eq_of_toNat_eq this

theorem eq_of_sameBytes {d d' : Block} (h : SameBytes d d' 0 16) : d = d' :=
  Vector.ext fun _ hk => getElem_of_sameBytes h hk (Nat.zero_le _) hk

theorem lo_of_sameBytes {d d' : Block} (h : SameBytes d d' 0 8) : lo d = lo d' := by
  have hget : ∀ k (hk : k < 8), d[k] = d'[k] := fun k hk => getElem_of_sameBytes h (by omega) (Nat.zero_le k) hk
  simp only [lo, hget, Nat.reduceLT]

theorem w0_of_sameBytes {d d' : Block} (h : SameBytes d d' 0 8) : w0 d = w0 d' := by
  have hget : ∀ k (hk : k < 8), d[k] = d'[k] := fun k hk => getElem_of_sameBytes h (by omega) (Nat.zero_le k) hk
  simp only [w0, hget, Nat.reduceLT]

/-- A legal format has blocks of 8 or of 16 bytes (30_encoding R61). -/
theorem blockBytes_of_legal : ∀ fmt : FmtCode, legalCode fmt = true → blockBytes fmt = 8 ∨ blockBytes fmt = 16 := by decide

/-- The formats with 8-byte blocks read one word of the first half: `W0` in ETC and EAC, `LO` in BC1 and BC4. -/
theorem decodeFn_of_first_half (P : Config.Params) {fmt : FmtCode} {d d' : Block} (h8 : blockBytes fmt = 8)
    (hw : w0 d = w0 d') (hlo : lo d = lo d') : decodeFn P fmt d = decodeFn P fmt d' := by
  have hetc1 : etc1Rgb8Pixels P d = etc1Rgb8Pixels P d' := by simp only [etc1Rgb8Pixels, hw]
  have hetc2 : etc2Rgb8Pixels P d = etc2Rgb8Pixels P d' := by simp only [etc2Rgb8Pixels, hw]
  have hpunch : etc2Pta1Pixels P d = etc2Pta1Pixels P d' := by simp only [etc2Pta1Pixels, hw]
  have hr11 : eacR11Pixels P.tables d = eacR11Pixels P.tables d' := by simp only [eacR11Pixels, hw]
  have hsr11 : eacSignedR11Pixels P.tables d = eacSignedR11Pixels P.tables d' := by simp only [eacSignedR11Pixels, hw]
  have hbc1 : bc1RgbPixels d = bc1RgbPixels d' := by simp only [bc1RgbPixels, hlo]
  have hbc1a : bc1RgbaPixels d = bc1RgbaPixels d' := by simp only [bc1RgbaPixels, hlo]
  have hbc4 : ∀ signed, bc4Pixels P signed d = bc4Pixels P signed d' := fun _ => by simp only [bc4Pixels, hlo]
  have hcodes : fmt.toNat ∈ [0, 1, 2, 5, 6, 7, 8, 11, 12, 13, 14, 19, 20] := by
    by_contra hn
    rw [blockBytes, if_neg hn] at h8
    split at h8 <;> cases h8
  unfold decodeFn
  generalize fmt.toNat = n at hcodes
  fin_cases hcodes
  all_goals simp only [hetc1, hetc2, hpunch, hr11, hsr11, hbc1, hbc1a, hbc4]

/-- `decodeFn` reads the bytes its format uses and no others. -/
theorem decodeFn_of_sameBytes (P : Config.Params) {fmt : FmtCode} {d d' : Block} (hl : legalCode fmt = true)
    (h : SameBytes d d' 0 (blockBytes fmt)) : decodeFn P fmt d = decodeFn P fmt d' := by
  obtain h8 | h16 := blockBytes_of_legal fmt hl
  · rw [h8] at h
    exact decodeFn_of_first_half P h8 (w0_of_sameBytes h) (lo_of_sameBytes h)
  · rw [h16] at h
    rw [eq_of_sameBytes h]

/-- Settles O13: both requests are answered by `decodeFn`, which reads the used bytes alone. -/
theorem responseDependsOnTheUsedBytesOnly : Obligations.ResponseDependsOnTheUsedBytesOnly := by
  rintro ⟨fmt, d⟩ ⟨_, d'⟩ s s' hans rfl hbytes hparams
  obtain ⟨px, hpx⟩ := decodeFn_of_answerable hans d
  have hpx' : decodeFn s'.params fmt d' = some px := by
    rw [← hparams, ← decodeFn_of_sameBytes s.params hans.1 hbytes]
    exact hpx
  exact ⟨_, _, exec_legal hans.1 hpx, exec_legal hans.1 hpx', rfl⟩

end Sys2Proof.Proofs
end

section
/-! PROOFS. The requester's list and several units: a step runs the decoded request (10_state R24, R27), and the units of a
platform share nothing (10_state R32). -/

namespace Sys2Proof.Proofs

open Sys2Proof Sys2Proof.Machine

/-! The next request -/

/-- A step with an action to come performs it on the state without it. -/
theorem step_of_todo {s : State} {a : Action} {rest : List Action} (h : s.todo = a :: rest) :
    step s = perform a { s with todo := rest } := by
  rw [step, h]

/-- A loaded word runs as its request, and the load leaves nothing behind (log entry 6). -/
theorem step_withFetchWord (s : State) (nbits w : Nat) :
    step (s.withFetchWord nbits w) = exec (decodeRequest (tableRequest nbits w)) s := rfl

/-- An accepted byte string decodes as the request of its bits. -/
theorem decodeBytes_ok {bs : List Byte} {i : Instr} (h : decodeBytes bs = .ok i) :
    bs.length = 17 ∧ bytesToNat bs < 2 ^ 133 ∧ i = decodeRequest (requestOfNat (bytesToNat bs)) := by
  unfold decodeBytes at h
  split at h
  · cases h
  · rename_i hlen
    split at h
    · cases h
    · rename_i hpad
      injection h with h
      exact ⟨not_not.mp hlen, not_le.mp hpad, h.symm⟩

/-- A field of `w` bits from bit `k` on is not touched by a cut at bit `m` above it. -/
theorem field_mod_two_pow (n : Nat) {k w m : Nat} (h : k + w ≤ m) : n % 2 ^ m / 2 ^ k % 2 ^ w = n / 2 ^ k % 2 ^ w := by
  obtain ⟨j, rfl⟩ := Nat.exists_eq_add_of_le (Nat.le_of_add_right_le h)
  rw [pow_add, Nat.mod_mul_right_div_self, Nat.mod_mod_of_dvd _ (Nat.pow_dvd_pow 2 (by omega))]

/-- The bits above the seventeen bytes are no part of the request (30_encoding R69). -/
theorem requestOfNat_mod (n : Nat) : requestOfNat (n % 2 ^ 136) = requestOfNat n := by
  have hfmt : BitVec.ofNat 5 (n % 2 ^ 136) = BitVec.ofNat 5 n :=
    BitVec.eq_of_toNat_eq (Nat.mod_mod_of_dvd n (Nat.pow_dvd_pow 2 (by decide)))
  have hbyte : ∀ i : Fin 16, BitVec.ofNat 8 (n % 2 ^ 136 / 2 ^ (5 + 8 * i.val)) = BitVec.ofNat 8 (n / 2 ^ (5 + 8 * i.val)) :=
    fun i => BitVec.eq_of_toNat_eq (field_mod_two_pow n (by omega))
  simp only [requestOfNat, hfmt, hbyte]

/-- A word that decodes is an accepted byte string. -/
theorem decodeBytes_of_decodeTableWord {nbits w : Nat} {i : Instr} (h : decodeTableWord nbits w = some i) :
    decodeBytes (natToBytes 17 (w % 2 ^ nbits)) = .ok i := by
  unfold decodeTableWord at h
  generalize decodeBytes (natToBytes 17 (w % 2 ^ nbits)) = x at h
  cases x with
  | error _ => cases h
  | ok j => exact congrArg Except.ok (Option.some.inj h)

/-- A word that decodes names the request that a step fetches with it. -/
theorem decodeRequest_tableRequest {nbits w : Nat} {i : Instr} (h : decodeTableWord nbits w = some i) :
    decodeRequest (tableRequest nbits w) = i := by
  obtain ⟨-, -, hi⟩ := decodeBytes_ok (decodeBytes_of_decodeTableWord h)
  have hpow : 256 ^ 17 = 2 ^ 136 := by norm_num
  rw [hi, bytesToNat_natToBytes, hpow, requestOfNat_mod, tableRequest]

/-- Settles O1, for a request in the list and for one that enters as its bits. -/
theorem stepRunsTheDecodedRequest : Obligations.StepRunsTheDecodedRequest := by
  refine ⟨fun s r rest h => step_of_todo h, fun s nbits w i h => ?_⟩
  rw [step_withFetchWord, decodeRequest_tableRequest h]

/-! Several units -/

/-- What the step of one unit does to the platform: it alone takes its step. -/
theorem act_some_iff {k : Nat} {pl pl' : Platform} :
    pl.act k = some pl' ↔ ∃ s t, pl.units[k]? = some s ∧ step s = .next t ∧ pl' = ⟨pl.units.set k t⟩ := by
  unfold Platform.act
  constructor
  · intro h
    split at h
    · cases h
    · rename_i s hs
      split at h
      · rename_i t ht
        injection h with h
        exact ⟨s, t, hs, ht, h.symm⟩
      · cases h
      · cases h
  · rintro ⟨s, t, hs, ht, rfl⟩
    simp only [hs, ht]

/-- A run whose first step answers goes on from the state it answers. -/
theorem run_succ {M : Host.Core} {s t : M.State} (h : M.step s = .next t) (n : Nat) : M.run (n + 1) s = M.run n t := by
  rw [Host.Core.run, h]

/-- After one step of unit `j`, unit `k` has taken one step if it is `j`, and none otherwise. -/
theorem act_unit {j k : Nat} {pl pl' : Platform} {s : State} (h : pl.act j = some pl') (hs : pl.units[k]? = some s) :
    ∃ t, pl'.units[k]? = some t ∧ ∀ n, core.run (n + [j].count k) s = core.run n t := by
  obtain ⟨sj, tj, hj, hstep, rfl⟩ := act_some_iff.mp h
  by_cases hk : j = k
  · subst hk
    obtain rfl : sj = s := Option.some.inj (hj.symm.trans hs)
    refine ⟨tj, ?_, fun n => ?_⟩
    · exact List.getElem?_set_self (List.getElem?_eq_some_iff.mp hs).1
    · rw [List.count_singleton_self]
      exact run_succ (M := core) hstep n
  · refine ⟨s, ?_, fun n => ?_⟩
    · exact (List.getElem?_set_ne hk).trans hs
    · rw [List.count_singleton, beq_false_of_ne hk]
      rfl

/-- Settles O60, by induction on the order in which the units take their steps. -/
theorem instancesShareNothing : Obligations.InstancesShareNothing := by
  intro ks
  induction ks with
  | nil =>
    rintro pl pl' ⟨⟩
    exact ⟨rfl, fun k s hs => ⟨s, hs, rfl⟩⟩
  | cons j js ih =>
    intro pl pl' h
    obtain ⟨mid, hact, hrest⟩ := Option.bind_eq_some_iff.mp h
    obtain ⟨hlen, hunits⟩ := ih mid pl' hrest
    refine ⟨?_, fun k s hs => ?_⟩
    · obtain ⟨_, _, -, -, rfl⟩ := act_some_iff.mp hact
      simpa using hlen
    · obtain ⟨u, hu, hone⟩ := act_unit hact hs
      obtain ⟨t, ht, hrun⟩ := hunits k u hu
      refine ⟨t, ht, ?_⟩
      rw [List.count_cons, ← hrun, ← hone, List.count_singleton]

end Sys2Proof.Proofs
end

section
/-! PROOFS. Several units and one destination (20_memory R51, 48_tiler_contract R332): every event of a block has one effect on
the destination, whoever performs it and when, and the effects of any two events commute. -/

namespace Sys2Proof.Proofs

open Sys2Proof Sys2Proof.Machine Sys2Proof.Claims Sys2Proof.Laws

/-! The response of a block -/

/-- The response of every block of a texture, decoded from its own bytes with zeros above a short block. -/
def Responses (P : Config.Params) (t : Texture) (resp : BlockPos → Pixels) : Prop :=
  ∀ b, decodeFn P t.fmt (blockData (fun _ _ => 0) t (blockIndex t.extent b)) = some (resp b)

theorem exists_responses {s : State} {t : Texture} (h : Answerable s t.fmt) : ∃ resp, Responses s.params t resp := by
  choose resp hresp using fun b : BlockPos =>
    decodeFn_of_answerable h (blockData (fun _ _ => 0) t (blockIndex t.extent b))
  exact ⟨resp, hresp⟩

/-- What stands above a short block is outside the bytes its format uses (48_tiler_contract R334). -/
theorem blockData_sameBytes (pad pad' : Nat → Nat → Byte) (t : Texture) (i : Nat) :
    SameBytes (blockData pad t i) (blockData pad' t i) 0 (blockBytes t.fmt) := by
  intro k _ hk
  simp [byte, blockData, hk]

/-- The response of block `b` is in `PX`, readable. -/
def Shows (resp : BlockPos → Pixels) (b : BlockPos) (s : State) : Prop := s.valid = true ∧ s.px = resp b

/-- The `Decode` step of a block completes with the block's response, whatever the registers held and whatever stands above
the block. -/
theorem issueBlock_shows {s : State} {t : Texture} {resp : BlockPos → Pixels} (hl : legalCode t.fmt = true)
    (hresp : Responses s.params t resp) (pad : Nat → Nat → Byte) (b : BlockPos) :
    ∃ s', issueBlock pad t b s = .ok s' ∧ s'.params = s.params ∧ Shows resp b s' := by
  have hpx : decodeFn s.params t.fmt (blockData pad t (blockIndex t.extent b)) = some (resp b) :=
    (decodeFn_of_sameBytes s.params hl (blockData_sameBytes _ _ t _)).trans (hresp b)
  rw [issueBlock, exec_legal (r := ⟨t.fmt, blockData pad t (blockIndex t.extent b)⟩) hl hpx]
  exact ⟨_, rfl, rfl, rfl, rfl⟩

/-! The effect of an event on the destination -/

/-- Pixel `p` of block `b` lies inside the image (48_tiler_contract R335). -/
abbrev Inside (e : Extent) (b : BlockPos) (p : Fin 16) : Prop := 4 * b.x + p.val % 4 < e.w ∧ 4 * b.y + p.val / 4 < e.h

/-- What an event does to the destination when its block's response is in `PX`: nothing for a `Decode` step, and for a copy the
converted pixel at its place, if that lies inside the image (48_tiler_contract R335, R336). -/
def commit (resp : BlockPos → Pixels) (dst : Image) : Event → Image
  | .issue _ => dst
  | .copy b p =>
    if Inside dst.extent b p then
      dst.put (4 * b.x + p.val % 4) (4 * b.y + p.val / 4) b.z (convert dst.layout (resp b)[p])
    else dst

theorem commit_issue (resp : BlockPos → Pixels) (dst : Image) (b : BlockPos) : commit resp dst (.issue b) = dst := rfl

theorem commit_inside (resp : BlockPos → Pixels) {dst : Image} {b : BlockPos} {p : Fin 16} (h : Inside dst.extent b p) :
    commit resp dst (.copy b p) =
      dst.put (4 * b.x + p.val % 4) (4 * b.y + p.val / 4) b.z (convert dst.layout (resp b)[p]) := if_pos h

theorem commit_outside (resp : BlockPos → Pixels) {dst : Image} {b : BlockPos} {p : Fin 16} (h : ¬ Inside dst.extent b p) :
    commit resp dst (.copy b p) = dst := if_neg h

@[simp] theorem commit_extent (resp : BlockPos → Pixels) (dst : Image) (e : Event) :
    (commit resp dst e).extent = dst.extent := by
  unfold commit
  split
  · rfl
  · split <;> rfl

theorem copyPixel_eq_commit {resp : BlockPos → Pixels} {b : BlockPos} {s : State} (h : Shows resp b s) (dst : Image)
    (p : Fin 16) : copyPixel s b dst p = .ok (commit resp dst (.copy b p)) := by
  obtain ⟨hvalid, hpx⟩ := h
  have hread : s.readPx p = some (resp b)[p] := readPx_eq_some.mpr ⟨hvalid, by rw [hpx]⟩
  simp only [copyPixel, commit, hread]
  split <;> rfl

theorem mul_add_inj {n a a' r r' : Nat} (hr : r < n) (hr' : r' < n) (h : a * n + r = a' * n + r') : a = a' ∧ r = r' := by
  have hdiv := congrArg (· / n) h
  have hmod := congrArg (· % n) h
  have hn : 0 < n := by omega
  simp only [Nat.mul_comm _ n, Nat.mul_add_div hn, Nat.mul_add_mod, Nat.div_eq_of_lt, Nat.mod_eq_of_lt, hr, hr'] at hdiv hmod
  exact ⟨hdiv, hmod⟩

/-- Two places inside the image are one only if they have the same coordinates. -/
theorem texelIndex_inj {e : Extent} {x y z x' y' z' : Nat} (hx : x < e.w) (hy : y < e.h) (hx' : x' < e.w) (hy' : y' < e.h)
    (h : texelIndex e x y z = texelIndex e x' y' z') : x = x' ∧ y = y' ∧ z = z' := by
  obtain ⟨hrow, hxx⟩ := mul_add_inj hx hx' h
  obtain ⟨hzz, hyy⟩ := mul_add_inj hy hy' hrow
  exact ⟨hxx, hyy, hzz⟩

/-- A pixel of the grid belongs to one block, at one place in it. -/
theorem blockPixel_inj {b b' : BlockPos} {p p' : Fin 16} (hx : 4 * b.x + p.val % 4 = 4 * b'.x + p'.val % 4)
    (hy : 4 * b.y + p.val / 4 = 4 * b'.y + p'.val / 4) (hz : b.z = b'.z) : b = b' ∧ p = p' := by
  obtain ⟨x, y, z⟩ := b
  obtain ⟨x', y', z'⟩ := b'
  simp only at hx hy hz
  simp only [BlockPos.mk.injEq, Fin.ext_iff]
  omega

/-- Two writes to different places, or the same write twice, may change their order. -/
theorem put_comm {i : Image} {x y z x' y' z' : Nat} {v v' : Texel}
    (h : texelIndex i.extent x y z = texelIndex i.extent x' y' z' → v = v') :
    (i.put x y z v).put x' y' z' v' = (i.put x' y' z' v').put x y z v := by
  simp only [Image.put]
  by_cases heq : texelIndex i.extent x y z = texelIndex i.extent x' y' z'
  · rw [heq, h heq]
  · rw [List.set_comm _ _ heq]

/-- Any two events commute: a place of the image belongs to one pixel of one block. -/
theorem commit_comm (resp : BlockPos → Pixels) (dst : Image) (e e' : Event) :
    commit resp (commit resp dst e) e' = commit resp (commit resp dst e') e := by
  cases e with
  | issue b => rfl
  | copy b p =>
    cases e' with
    | issue b' => rfl
    | copy b' p' =>
      by_cases hin : Inside dst.extent b p
      · by_cases hin' : Inside dst.extent b' p'
        · have hafter : Inside (commit resp dst (.copy b' p')).extent b p := by rwa [commit_extent]
          have hafter' : Inside (commit resp dst (.copy b p)).extent b' p' := by rwa [commit_extent]
          rw [commit_inside resp hafter, commit_inside resp hafter', commit_inside resp hin, commit_inside resp hin']
          refine put_comm fun hplace => ?_
          obtain ⟨hx, hy, hz⟩ := texelIndex_inj hin.1 hin.2 hin'.1 hin'.2 hplace
          obtain ⟨rfl, rfl⟩ := blockPixel_inj hx hy hz
          rfl
        · have hafter' : ¬ Inside (commit resp dst (.copy b p)).extent b' p' := by rwa [commit_extent]
          rw [commit_outside resp hafter', commit_outside resp hin']
      · have hafter : ¬ Inside (commit resp dst (.copy b' p')).extent b p := by rwa [commit_extent]
        rw [commit_outside resp hafter, commit_outside resp hin]

/-- The destination after some events does not depend on their order. -/
theorem foldl_commit_perm (resp : BlockPos → Pixels) {es es' : List Event} (h : es.Perm es') (dst : Image) :
    es.foldl (commit resp) dst = es'.foldl (commit resp) dst :=
  h.foldl_eq' (fun e _ e' _ i => commit_comm resp i e e') dst

/-! One tiler -/

theorem copyPixels_eq_foldl {resp : BlockPos → Pixels} {b : BlockPos} {s : State} (h : Shows resp b s) (ps : List (Fin 16))
    (dst : Image) : copyPixels s b ps dst = .ok ((ps.map (.copy b)).foldl (commit resp) dst) := by
  induction ps generalizing dst with
  | nil => rfl
  | cons p ps ih =>
    rw [copyPixels, copyPixel_eq_commit h]
    exact ih _

/-- One block of the walk leaves what its events leave. -/
theorem tileBlock_eq_foldl {t : Texture} {resp : BlockPos → Pixels} {s : State} (hl : legalCode t.fmt = true)
    (hresp : Responses s.params t resp) (pad : Nat → Nat → Byte) (b : BlockPos) (dst : Image) :
    ∃ s', tileBlock pad t b s dst = .ok (s', (blockEvents b).foldl (commit resp) dst) ∧ s'.params = s.params := by
  obtain ⟨s', hissue, hparams, hshows⟩ := issueBlock_shows hl hresp pad b
  refine ⟨s', ?_, hparams⟩
  rw [blockEvents, List.foldl_cons, commit_issue]
  simp only [tileBlock, hissue, copyPixels_eq_foldl hshows]

/-- One unit that works through some blocks leaves what their events leave. -/
theorem tileBlocks_eq_foldl {t : Texture} {resp : BlockPos → Pixels} (hl : legalCode t.fmt = true) (pad : Nat → Nat → Byte)
    (bs : List BlockPos) {s : State} (hresp : Responses s.params t resp) (dst : Image) :
    ∃ u, tileBlocks pad t bs s dst = .ok (u, (bs.flatMap blockEvents).foldl (commit resp) dst) := by
  induction bs generalizing s dst with
  | nil => exact ⟨s, rfl⟩
  | cons b bs ih =>
    obtain ⟨s', hblock, hparams⟩ := tileBlock_eq_foldl hl hresp pad b dst
    obtain ⟨u, hu⟩ := ih (hparams ▸ hresp) ((blockEvents b).foldl (commit resp) dst)
    exact ⟨u, by simp only [tileBlocks, hblock, hu, List.flatMap_cons, List.foldl_append]⟩

/-- With its preconditions met the tiler is its walk. -/
theorem decompress_of_ready {t : Texture} {dst : Image} (h : TilerReady t dst) (pad : Nat → Nat → Byte) (s : State) :
    decompress pad t s dst = tileBlocks pad t (walk t.extent) s dst := by
  obtain ⟨hlegal, hlayout, hfit, hextent, htexels, hsource⟩ := h
  simp [decompress, hlegal, hlayout, hfit, hextent, htexels, hsource]

/-! A worker and its events -/

/-- Every copy still to do finds its block's response in `PX`: it is there now, or a `Decode` step of the block comes first. -/
def InOrder (resp : BlockPos → Pixels) : State → List Event → Prop
  | _, [] => True
  | _, .issue b :: es => ∀ s, Shows resp b s → InOrder resp s es
  | s, .copy b _ :: es => Shows resp b s ∧ InOrder resp s es

theorem inOrder_copies {resp : BlockPos → Pixels} {b : BlockPos} {s : State} (h : Shows resp b s) (ps : List (Fin 16))
    {es : List Event} (hes : InOrder resp s es) : InOrder resp s (ps.map (.copy b) ++ es) := by
  induction ps with
  | nil => exact hes
  | cons p ps ih => exact ⟨h, ih⟩

/-- The events of whole blocks are in order, whatever the registers hold. -/
theorem inOrder_blockEvents (resp : BlockPos → Pixels) (bs : List BlockPos) (s : State) :
    InOrder resp s (bs.flatMap blockEvents) := by
  induction bs generalizing s with
  | nil => trivial
  | cons b bs ih => exact fun u hu => inOrder_copies hu _ (ih u)

/-- An event that comes in order has its one effect on the destination, and leaves the rest in order. -/
theorem performEvent_inOrder {t : Texture} {resp : BlockPos → Pixels} {s : State} {e : Event} {es : List Event}
    (hl : legalCode t.fmt = true) (hresp : Responses s.params t resp) (h : InOrder resp s (e :: es))
    (pad : Nat → Nat → Byte) (dst : Image) :
    ∃ s', performEvent pad t e s dst = .ok (s', commit resp dst e) ∧ s'.params = s.params ∧ InOrder resp s' es := by
  cases e with
  | issue b =>
    obtain ⟨s', hissue, hparams, hshows⟩ := issueBlock_shows hl hresp pad b
    exact ⟨s', by rw [performEvent, hissue, commit_issue], hparams, h s' hshows⟩
  | copy b p =>
    obtain ⟨hshows, hrest⟩ := h
    exact ⟨s, by rw [performEvent, copyPixel_eq_commit hshows], rfl, hrest⟩

/-! The team -/

/-- A worker whose unit has the given parameters and whose events are in order. -/
def WorkerReady (P : Config.Params) (resp : BlockPos → Pixels) (w : Worker) : Prop :=
  w.unit.params = P ∧ InOrder resp w.unit w.work

/-- A worker with work takes its next event, and stays ready. -/
theorem act_of_ready {P : Config.Params} {t : Texture} {resp : BlockPos → Pixels} {k : Nat} {tm : Team} {w : Worker}
    {e : Event} {es : List Event} (hl : legalCode t.fmt = true) (hresp : Responses P t resp) (hk : tm.workers[k]? = some w)
    (hwork : w.work = e :: es) (hw : WorkerReady P resp w) (pad : Nat → Nat → Byte) :
    ∃ s', tm.act pad t k = some ⟨tm.workers.set k ⟨s', es⟩, commit resp tm.dst e⟩ ∧ WorkerReady P resp ⟨s', es⟩ := by
  obtain ⟨rfl, horder⟩ := hw
  rw [hwork] at horder
  obtain ⟨s', hevent, hparams, hrest⟩ := performEvent_inOrder hl hresp horder pad tm.dst
  exact ⟨s', by simp only [Team.act, hk, hwork, hevent], hparams, hrest⟩

/-- What a team still has to do, when one worker has taken its next event. -/
theorem work_perm_of_set {ws : List Worker} {k : Nat} {w : Worker} {e : Event} {es : List Event} (hk : ws[k]? = some w)
    (hwork : w.work = e :: es) (s' : State) :
    (ws.flatMap Worker.work).Perm (e :: (ws.set k ⟨s', es⟩).flatMap Worker.work) := by
  induction ws generalizing k with
  | nil => cases hk
  | cons v ws ih =>
    cases k with
    | zero =>
      obtain rfl : v = w := Option.some.inj hk
      simp [hwork]
    | succ k =>
      rw [List.set_cons_succ, List.flatMap_cons, List.flatMap_cons]
      exact ((ih hk).append_left v.work).trans List.perm_middle

/-- The number of events worker `k` still has; none if there is no such worker. -/
def eventsLeft (ws : List Worker) (k : Nat) : Nat := (ws[k]?.map fun w => w.work.length).getD 0

/-- A schedule that names a worker with as many entries as it has events left finds it with an event. -/
theorem exists_work_of_eventsLeft {ws : List Worker} {k n : Nat} (h : eventsLeft ws k = n + 1) :
    ∃ w e es, ws[k]? = some w ∧ w.work = e :: es ∧ es.length = n := by
  unfold eventsLeft at h
  cases hk : ws[k]? with
  | none => simp [hk] at h
  | some w =>
    obtain ⟨e, es, hwork, hlen⟩ := List.length_eq_succ_iff.mp (by simpa [hk] using h : w.work.length = n + 1)
    exact ⟨w, e, es, rfl, hwork.symm, hlen⟩

theorem eventsLeft_set {ws : List Worker} {k : Nat} {w : Worker} (hk : ws[k]? = some w) (v : Worker) (j : Nat) :
    eventsLeft (ws.set k v) j = if j = k then v.work.length else eventsLeft ws j := by
  obtain ⟨hlt, -⟩ := List.getElem?_eq_some_iff.mp hk
  unfold eventsLeft
  split
  · next h => simp [h, hlt]
  · next h => rw [List.getElem?_set_ne (Ne.symm h)]

theorem work_nil_of_eventsLeft {ws : List Worker} (h : ∀ k, eventsLeft ws k = 0) : ∀ w ∈ ws, w.work = [] := by
  intro w hw
  obtain ⟨k, hk⟩ := List.mem_iff_getElem?.mp hw
  simpa [eventsLeft, hk] using h k

/-- A schedule that gives every ready worker as many entries as it has events completes, leaves no event, and has on the
destination the effect of all the events. -/
theorem actAll_eq_foldl {P : Config.Params} {t : Texture} {resp : BlockPos → Pixels} (hl : legalCode t.fmt = true)
    (hresp : Responses P t resp) (pad : Nat → Nat → Byte) (ks : List Nat) {tm : Team}
    (hready : ∀ w ∈ tm.workers, WorkerReady P resp w) (hcount : ∀ k, ks.count k = eventsLeft tm.workers k) :
    ∃ tm', Team.actAll pad t ks tm = some tm' ∧ (∀ w ∈ tm'.workers, w.work = []) ∧
      tm'.dst = (tm.workers.flatMap Worker.work).foldl (commit resp) tm.dst := by
  induction ks generalizing tm with
  | nil =>
    have hdone : ∀ w ∈ tm.workers, w.work = [] := work_nil_of_eventsLeft fun k => (hcount k).symm
    exact ⟨tm, rfl, hdone, by rw [List.flatMap_eq_nil_iff.mpr hdone]; rfl⟩
  | cons k ks ih =>
    obtain ⟨w, e, es, hk, hwork, hlen⟩ :=
      exists_work_of_eventsLeft ((hcount k).symm.trans List.count_cons_self)
    obtain ⟨s', hact, hnext⟩ := act_of_ready hl hresp hk hwork (hready w (List.mem_of_getElem? hk)) pad
    have hready' : ∀ v ∈ tm.workers.set k ⟨s', es⟩, WorkerReady P resp v := fun v hv =>
      (List.mem_or_eq_of_mem_set hv).elim (hready v) fun heq => heq ▸ hnext
    have hcount' : ∀ j, ks.count j = eventsLeft (tm.workers.set k ⟨s', es⟩) j := by
      intro j
      rw [eventsLeft_set hk]
      split
      · next hj => rw [hj, hlen]
      · next hj => rw [← hcount j, List.count_cons_of_ne (Ne.symm hj)]
    obtain ⟨tm', hrest, hdone, hdst⟩ := ih (tm := ⟨_, commit resp tm.dst e⟩) hready' hcount'
    refine ⟨tm', ?_, hdone, ?_⟩
    · rw [Team.actAll, hact]
      exact hrest
    · rw [hdst, foldl_commit_perm resp (work_perm_of_set hk hwork s'), List.foldl_cons]

/-! The start of a team -/

theorem length_blockEvents (bs : List BlockPos) : (bs.flatMap blockEvents).length = bs.length * 17 := by
  induction bs with
  | nil => rfl
  | cons b bs ih =>
    rw [List.flatMap_cons, List.length_append, ih, List.length_cons, Nat.succ_mul, Nat.add_comm]
    simp [blockEvents]

theorem eventsLeft_start (shares : List (State × List BlockPos)) (dst : Image) (k : Nat) :
    eventsLeft (Team.start shares dst).workers k = ((shares[k]?.map fun w => w.2.length).getD 0) * 17 := by
  simp only [eventsLeft, Team.start, List.getElem?_map]
  cases shares[k]? with
  | none => rfl
  | some w => exact length_blockEvents w.2

theorem start_ready {P : Config.Params} {shares : List (State × List BlockPos)} (h : ∀ w ∈ shares, w.1.params = P)
    (resp : BlockPos → Pixels) (dst : Image) : ∀ w ∈ (Team.start shares dst).workers, WorkerReady P resp w :=
  List.forall_mem_map.mpr fun w hw => ⟨h w hw, inOrder_blockEvents resp w.2 w.1⟩

/-- The events of a team before its first one are those of all the shares. -/
theorem start_work (shares : List (State × List BlockPos)) (dst : Image) :
    (Team.start shares dst).workers.flatMap Worker.work = (shares.flatMap fun w => w.2).flatMap blockEvents := by
  rw [Team.start, List.flatMap_map, List.flatMap_assoc]

/-- Settles O59: the team and the tiler perform the same events in two orders, and the order does not matter. -/
theorem anyInterleavingFillsTheDestination : Obligations.AnyInterleavingFillsTheDestination := by
  intro pad pad' tex s dst shares schedule hready hans hparams hwalk hschedule
  obtain ⟨resp, hresp⟩ := exists_responses hans
  obtain ⟨tm, hrun, hdone, hdst⟩ := actAll_eq_foldl hans.1 hresp pad schedule (start_ready hparams resp dst)
    fun k => (hschedule k).trans (eventsLeft_start shares dst k).symm
  obtain ⟨t, htile⟩ := tileBlocks_eq_foldl hans.1 pad' (walk tex.extent) hresp dst
  refine ⟨tm, t, _, hrun, hdone, (decompress_of_ready hready pad' s).trans htile, ?_⟩
  rw [hdst, start_work]
  exact foldl_commit_perm resp (hwalk.flatMap_right blockEvents) dst

end Sys2Proof.Proofs
end

section
/-! PROOFS. Requests and their serial form (30_encoding R60, R69; log entry 8): decoding and encoding are inverse to each
other, on requests, on numbers of 133 bits and on strings of seventeen bytes. -/

namespace Sys2Proof.Proofs

open Sys2Proof Sys2Proof.Machine

/-! Requests and instructions -/

/-- The pair an instruction stands for decodes to it (30_encoding R62). -/
theorem decodeRequest_request (i : Instr) : decodeRequest i.request = i := by cases i <;> rfl

/-- The instruction of a request stands for that request: no two codes name one row (30_encoding R60). -/
theorem request_decodeRequest (r : Request) : (decodeRequest r).request = r := by
  obtain ⟨fmt, d⟩ := r
  induction fmt using fmtCode_cases with
  | h n hn => interval_cases n <;> rfl

theorem code_decodeRequest (r : Request) : (decodeRequest r).code = r.fmt :=
  congrArg Request.fmt (request_decodeRequest r)

theorem block_decodeRequest (r : Request) : (decodeRequest r).block = r.d :=
  congrArg Request.d (request_decodeRequest r)

/-! Bytes and numbers -/

@[simp] theorem length_natToBytes (k n : Nat) : (natToBytes k n).length = k := by
  induction k generalizing n with
  | zero => rfl
  | succ k ih => rw [natToBytes, List.length_cons, ih]

theorem natToBytes_getElem {k i : Nat} (n : Nat) (h : i < (natToBytes k n).length) :
    (natToBytes k n)[i] = BitVec.ofNat 8 (n / 256 ^ i) := by
  induction k generalizing n i with
  | zero => exact absurd h (Nat.not_lt_zero i)
  | succ k ih =>
    cases i with
    | zero => simp [natToBytes]
    | succ i => simp [natToBytes, ih, Nat.div_div_eq_div_mul, Nat.pow_succ']

/-- A byte string is recovered from its number. -/
theorem natToBytes_bytesToNat (bs : List Byte) : natToBytes bs.length (bytesToNat bs) = bs := by
  induction bs with
  | nil => rfl
  | cons b bs ih =>
    have hb := b.isLt
    have hhead : BitVec.ofNat 8 (b.toNat + 256 * bytesToNat bs) = b :=
      BitVec.eq_of_toNat_eq (by rw [BitVec.toNat_ofNat]; omega)
    have htail : (b.toNat + 256 * bytesToNat bs) / 256 = bytesToNat bs := by omega
    rw [List.length_cons, bytesToNat, natToBytes, hhead, htail, ih]

theorem bytesToNat_lt (bs : List Byte) : bytesToNat bs < 256 ^ bs.length := by
  rw [← natToBytes_bytesToNat bs, bytesToNat_natToBytes, length_natToBytes]
  exact Nat.mod_lt _ (by positivity)

theorem bytesToNat_natToBytes_of_lt {k n : Nat} (h : n < 256 ^ k) : bytesToNat (natToBytes k n) = n := by
  rw [bytesToNat_natToBytes, Nat.mod_eq_of_lt h]

/-! Requests and their 133 bits -/

/-- Byte `k` of the operand starts at bit `5 + 8 k` of the word, right above the format field. -/
theorem div_operandByte (n k : Nat) : n / 2 ^ (5 + 8 * k) = n / 32 / 256 ^ k := by
  rw [Nat.pow_add, Nat.pow_mul, Nat.div_div_eq_div_mul]

/-- The operand of a word is the sixteen bytes above the format field. -/
theorem requestOfNat_block_toList (n : Nat) : (requestOfNat n).d.toList = natToBytes 16 (n / 32) := by
  apply List.ext_getElem
  · simp
  · intro k hk _
    rw [natToBytes_getElem, ← div_operandByte]
    simp [requestOfNat]

/-- Every 133-bit word is that of the request it names. -/
theorem requestToNat_requestOfNat {n : Nat} (h : n < 2 ^ 133) : requestToNat (requestOfNat n) = n := by
  have hoperand : n / 32 < 256 ^ 16 := by omega
  have hfmt : (requestOfNat n).fmt.toNat = n % 32 := rfl
  rw [requestToNat, requestOfNat_block_toList, bytesToNat_natToBytes_of_lt hoperand, hfmt]
  omega

/-- A request is recovered from its word: the format field from the low five bits, the operand from the bits above. -/
theorem requestOfNat_requestToNat (r : Request) : requestOfNat (requestToNat r) = r := by
  have hlt := r.fmt.isLt
  have hdiv : requestToNat r / 32 = bytesToNat r.d.toList := by
    rw [requestToNat]
    omega
  have hfmt : (requestOfNat (requestToNat r)).fmt = r.fmt :=
    BitVec.eq_of_toNat_eq (by simp only [requestOfNat, requestToNat, BitVec.toNat_ofNat]; omega)
  have hd : (requestOfNat (requestToNat r)).d = r.d := by
    apply Vector.toList_inj.mp
    rw [requestOfNat_block_toList, hdiv]
    simpa using natToBytes_bytesToNat r.d.toList
  exact (Request.mk.injEq ..).mpr ⟨hfmt, hd⟩

theorem requestToNat_lt (r : Request) : requestToNat r < 2 ^ 133 := by
  have hfmt := r.fmt.isLt
  have hd := bytesToNat_lt r.d.toList
  rw [Vector.length_toList] at hd
  rw [requestToNat]
  omega

/-! Byte strings -/

/-- Seventeen bytes without a bit above bit 132 are accepted (30_encoding R69). -/
theorem decodeBytes_of_lt {bs : List Byte} (hlen : bs.length = 17) (h : bytesToNat bs < 2 ^ 133) :
    decodeBytes bs = .ok (decodeRequest (requestOfNat (bytesToNat bs))) := by
  rw [decodeBytes, if_neg (not_not.mpr hlen), if_neg (not_le.mpr h)]

theorem decodeBytes_badLength {bs : List Byte} (h : bs.length ≠ 17) : decodeBytes bs = .error .badLength := by
  rw [decodeBytes, if_pos h]

theorem decodeBytes_paddingSet {bs : List Byte} (hlen : bs.length = 17) (h : 2 ^ 133 ≤ bytesToNat bs) :
    decodeBytes bs = .error .paddingSet := by
  rw [decodeBytes, if_neg (not_not.mpr hlen), if_pos h]

theorem length_encode (i : Instr) : (encode i).length = 17 := length_natToBytes _ _

/-- The seventeen bytes of an instruction hold its 133 bits. -/
theorem bytesToNat_encode (i : Instr) : bytesToNat (encode i) = requestToNat i.request :=
  bytesToNat_natToBytes_of_lt (lt_trans (requestToNat_lt i.request) (by norm_num))

theorem decodeBytes_encode (i : Instr) : decodeBytes (encode i) = .ok i := by
  have hlt : bytesToNat (encode i) < 2 ^ 133 := bytesToNat_encode i ▸ requestToNat_lt i.request
  rw [decodeBytes_of_lt (length_encode i) hlt, bytesToNat_encode, requestOfNat_requestToNat, decodeRequest_request]

theorem encode_of_decodeBytes {bs : List Byte} {i : Instr} (h : decodeBytes bs = .ok i) : encode i = bs := by
  obtain ⟨hlen, hlt, rfl⟩ := decodeBytes_ok h
  rw [encode, request_decodeRequest, requestToNat_requestOfNat hlt, ← hlen, natToBytes_bytesToNat]

/-! Table words -/

/-- A table word whose bits from 133 on are 0 decodes as the request of its bits, however many of its bits are read as long as
none is lost. -/
theorem decodeTableWord_of_lt {nbits n : Nat} (hn : n < 2 ^ nbits) (h : n < 2 ^ 133) :
    decodeTableWord nbits n = some (decodeRequest (requestOfNat n)) := by
  have hnat : bytesToNat (natToBytes 17 n) = n := bytesToNat_natToBytes_of_lt (lt_trans h (by norm_num))
  have hdecode : decodeBytes (natToBytes 17 n) = .ok (decodeRequest (requestOfNat n)) := by
    rw [decodeBytes_of_lt (length_natToBytes 17 n) (hnat.symm ▸ h), hnat]
  rw [decodeTableWord, Nat.mod_eq_of_lt hn, hdecode]

/-! Well-formedness -/

/-- Every instruction passes the checks of a written request: its type admits nothing ill-formed (30_encoding R81). -/
theorem wellFormed_instr (i : Instr) : i.wellFormed = true := by
  have hcode : i.written.codeOk = true := decide_eq_true i.code.isLt
  have hlength : i.written.lengthOk = true := by simp [Written.lengthOk, Instr.written]
  have hbytes : i.written.bytesOk = true := by
    rw [Written.bytesOk, List.all_eq_true]
    intro x hx
    obtain ⟨b, -, rfl⟩ := List.mem_map.mp hx
    exact decide_eq_true b.isLt
  rw [Instr.wellFormed, Written.wellFormed, hcode, hlength, hbytes]
  rfl

/-! The obligations -/

/-- Settles O5: the request is recovered from its 133 bits, these from the seventeen bytes (log entry 8). -/
theorem decodingAnEncodingGivesTheInstruction : Obligations.DecodingAnEncodingGivesTheInstruction := by
  intro i
  have hlt := requestToNat_lt i.request
  refine ⟨wellFormed_instr i, decodeBytes_encode i, ?_⟩
  rw [bytesToNat_encode, decodeTableWord_of_lt (lt_trans hlt (by norm_num)) hlt, requestOfNat_requestToNat,
    decodeRequest_request]

/-- Settles O6: accepted bytes come back by the encoder, and the two refusals have one cause each (log entry 8). -/
theorem onlyEncodingsAreAccepted : Obligations.OnlyEncodingsAreAccepted := by
  refine ⟨fun bs i => encode_of_decodeBytes, fun bs => decodeBytes_badLength, fun bs hlen => ⟨fun h => ?_, fun h => ?_⟩⟩
  · by_contra hlt
    rw [decodeBytes_of_lt hlen (not_le.mp hlt)] at h
    cases h
  · exact decodeBytes_paddingSet hlen h

/-- Settles O7: the code and the operand of the request that the word names (log entry 8). -/
theorem formatFieldAndOperandBits : Obligations.FormatFieldAndOperandBits := by
  intro n hn
  refine ⟨_, decodeTableWord_of_lt (lt_trans hn (by norm_num)) hn, ?_, fun k => ?_⟩
  · rw [code_decodeRequest]
    rfl
  · rw [block_decodeRequest]
    simp [requestOfNat]

/-- The word with bit 133 alone is refused: the bit lies above the request's (log entry 8). -/
theorem decodeTableWord_padding : decodeTableWord 136 (2 ^ 133) = none := by
  have hnat : bytesToNat (natToBytes 17 (2 ^ 133)) = 2 ^ 133 := bytesToNat_natToBytes_of_lt (by norm_num)
  rw [decodeTableWord, Nat.mod_eq_of_lt (by norm_num), decodeBytes_paddingSet (length_natToBytes 17 _) hnat.ge]

/-- Settles O3: each word is below `2 ^ 133`, and the fields of its request are read off. -/
theorem writtenOutWordsDecode : Obligations.WrittenOutWordsDecode := by
  refine ⟨?_, ?_, ?_, ?_, ?_, ?_, ?_, ?_, ?_, ?_, decodeTableWord_padding⟩
  all_goals
    rw [decodeTableWord_of_lt (by norm_num) (by norm_num)]
    decide

/-- Settles O4: the closed match row by row, and the block sizes code by code. -/
theorem requestCodesNameTheRows : Obligations.RequestCodesNameTheRows := by
  refine ⟨fun d => ?_, by decide, by decide⟩
  repeat' apply And.intro
  all_goals rfl

end Sys2Proof.Proofs
end

section
/-! PROOFS. The ranges of the values the decoders compute (30_encoding R63), family by family: what a channel can be before it is
stored in a lane. -/

namespace Sys2Proof.Proofs

open Sys2Proof Sys2Proof.Machine Sys2Proof.Laws

/-! The shared primitives (40_bitfield_extractor) -/

/-- `sext_n` answers an `n`-bit two's complement number (40_bitfield_extractor R104). -/
theorem sext_bounds {n : Nat} (hn : 1 ≤ n) (v : Nat) : -2 ^ (n - 1) ≤ sext n v ∧ sext n v < 2 ^ (n - 1) := by
  obtain ⟨k, rfl⟩ := Nat.exists_eq_add_of_le' hn
  have hlt : v % 2 ^ (k + 1) < 2 ^ (k + 1) := Nat.mod_lt _ (Nat.two_pow_pos _)
  rw [sext, Nat.add_sub_cancel]
  generalize v % 2 ^ (k + 1) = x at hlt
  have hcast : ((2 ^ k : Nat) : Int) = 2 ^ k := by push_cast; rfl
  rw [Nat.pow_succ] at hlt
  rw [Nat.pow_succ, pow_succ, ← hcast]
  generalize 2 ^ k = K at hlt ⊢
  split <;> omega

/-- `interp` stays inside any interval that holds both its ends (45_shared_tables R236). -/
theorem interp_bounds {lo hi a b : Int} (ha : lo ≤ a ∧ a ≤ hi) (hb : lo ≤ b ∧ b ≤ hi) {w : Nat} (hw : w ≤ 64) :
    lo ≤ interp a b w ∧ interp a b w ≤ hi := by
  obtain ⟨hla, hah⟩ := ha
  obtain ⟨hlb, hbh⟩ := hb
  have h1 : lo * (64 - w) ≤ a * (64 - w) := Int.mul_le_mul_of_nonneg_right hla (by omega)
  have h2 : lo * w ≤ b * w := Int.mul_le_mul_of_nonneg_right hlb (by omega)
  have h3 : a * (64 - w) ≤ hi * (64 - w) := Int.mul_le_mul_of_nonneg_right hah (by omega)
  have h4 : b * w ≤ hi * w := Int.mul_le_mul_of_nonneg_right hbh (by omega)
  have hlo : lo * (64 - w) + lo * w = 64 * lo := by ring
  have hhi : hi * (64 - w) + hi * w = 64 * hi := by ring
  rw [interp, shr]
  omega

/-- An extraction that answers fits its width. -/
theorem bits128_lt {b : Word128} {i j v : Nat} (h : bits128 b i j = some v) : v < 2 ^ (max i j - min i j + 1) := by
  by_cases hij : i ≤ 127 ∧ j ≤ 127
  · obtain ⟨v', hv', hlt⟩ := bits128_some b hij.1 hij.2
    rw [hv'] at h
    cases h
    exact hlt
  · rw [bits128, if_neg hij] at h
    cases h

theorem laneN_le {v n : Nat} (h : v ≤ n) (hn : n < 65536) : (laneN v).toNat ≤ n := by
  rw [laneN_toNat (by omega)]
  exact h

/-- A non-negative integer in a lane reads back as itself. -/
theorem laneZ_toNat {v : Int} (h : 0 ≤ v) (h' : v < 65536) : (laneZ v).toNat = v.toNat := by
  rw [laneZ, BitVec.toNat_ofInt]
  omega

/-! Lists of endpoints -/

/-- What holds of every reading holds of every entry of the list they make. -/
theorem forall_mem_of_mapM {α β : Type} {f : α → Option β} {q : β → Prop} {l : List α} {ys : List β}
    (h : ∀ x ∈ l, ∀ y, f x = some y → q y) (hys : l.mapM f = some ys) : ∀ y ∈ ys, q y := by
  induction l generalizing ys with
  | nil =>
    cases hys
    exact fun y hy => absurd hy List.not_mem_nil
  | cons x xs ih =>
    simp only [List.mapM_cons, Option.bind_eq_bind, Option.bind_eq_some_iff, Option.pure_def, Option.some.injEq] at hys
    obtain ⟨y, hy, zs, hzs, rfl⟩ := hys
    exact List.forall_mem_cons.mpr ⟨h x List.mem_cons_self y hy, ih (fun z hz => h z (List.mem_cons_of_mem x hz)) hzs⟩

/-- A look-up answers an entry of the list or the default. -/
theorem getD_of_forall_mem {α : Type} {q : α → Prop} {l : List α} {d : α} (h : ∀ x ∈ l, q x) (hd : q d) (i : Nat) :
    q (l.getD i d) := by
  rw [List.getD_eq_getElem?_getD]
  cases hi : l[i]? with
  | none => exact hd
  | some x => exact h x (List.mem_of_getElem? hi)

/-! Four 8-bit channels -/

/-- All four channels are bytes (30_encoding R63). -/
structure IsBytes (v : Rgba) : Prop where
  r : v.r ≤ 255
  g : v.g ≤ 255
  b : v.b ≤ 255
  a : v.a ≤ 255

theorem isBytes_rgba {f : Channel → Nat} (h : ∀ ch, f ch ≤ 255) {a : Nat} (ha : a ≤ 255) : IsBytes (rgba f a) :=
  ⟨h .r, h .g, h .b, ha⟩

theorem isBytes_setAlpha {v : Rgba} (h : IsBytes v) {a : Nat} (ha : a ≤ 255) : IsBytes { v with a := a } :=
  ⟨h.r, h.g, h.b, ha⟩

theorem isBytes_zero : IsBytes ⟨0, 0, 0, 0⟩ := by constructor <;> decide

theorem isBytes_pixel {v : Rgba} (h : IsBytes v) :
    v.pixel.c0.toNat ≤ 255 ∧ v.pixel.c1.toNat ≤ 255 ∧ v.pixel.c2.toNat ≤ 255 ∧ v.pixel.c3.toNat ≤ 255 :=
  ⟨laneN_le h.r (by decide), laneN_le h.g (by decide), laneN_le h.b (by decide), laneN_le h.a (by decide)⟩

theorem isBytes_pixelRgb {v : Rgba} (h : IsBytes v) :
    v.pixelRgb.c0.toNat ≤ 255 ∧ v.pixelRgb.c1.toNat ≤ 255 ∧ v.pixelRgb.c2.toNat ≤ 255 ∧ v.pixelRgb.c3 = 0 :=
  ⟨laneN_le h.r (by decide), laneN_le h.g (by decide), laneN_le h.b (by decide), rfl⟩

/-! ETC (41_etc1_etc2): every channel is clamped or widened from four bits. -/

theorem tColour0_le (c : Word64) (ch : Channel) : tColour0 c ch ≤ 255 := by
  cases ch with
  | r =>
    have h1 : bits c 59 60 < 4 := bits_lt c 59 60 (by omega)
    have h2 : bits c 56 57 < 4 := bits_lt c 56 57 (by omega)
    exact ext4_le (by omega)
  | g => exact ext4_le (bits_lt c 52 55 (by omega))
  | b => exact ext4_le (bits_lt c 48 51 (by omega))

theorem tColour1_le (c : Word64) (ch : Channel) : tColour1 c ch ≤ 255 := by
  cases ch with
  | r => exact ext4_le (bits_lt c 44 47 (by omega))
  | g => exact ext4_le (bits_lt c 40 43 (by omega))
  | b => exact ext4_le (bits_lt c 36 39 (by omega))

theorem tPaint_le (T : Config.Tables) (c : Word64) (i : Nat) (ch : Channel) : tPaint T c i ch ≤ 255 := by
  unfold tPaint
  split
  · exact tColour0_le c ch
  · exact clamp8_le _
  · exact tColour1_le c ch
  · exact clamp8_le _

theorem hPaint_le (T : Config.Tables) (c : Word64) (i : Nat) (ch : Channel) : hPaint T c i ch ≤ 255 := by
  unfold hPaint
  split <;> exact clamp8_le _

/-- A pixel that a punch-through index may make transparent (41_etc1_etc2 R134). -/
theorem isBytes_transparentOr (transparent : Bool) {f : Channel → Nat} (h : ∀ ch, f ch ≤ 255) :
    IsBytes (if transparent then ⟨0, 0, 0, 0⟩ else rgba f 255) := by
  cases transparent with
  | false => exact isBytes_rgba h (le_refl _)
  | true => exact isBytes_zero

/-- Every ETC pixel has byte channels, whatever the tables and whatever an overflowing base is. -/
theorem etcColour_isBytes (P : Config.Params) (c : Word64) (kind : EtcKind) (p : Fin 16) : IsBytes (etcColour P c kind p) := by
  unfold etcColour
  split
  · exact isBytes_rgba (fun ch => clamp8_le _) (le_refl _)
  · exact isBytes_transparentOr _ (tPaint_le P.tables c _)
  · exact isBytes_transparentOr _ (hPaint_le P.tables c _)
  · exact isBytes_transparentOr _ fun ch => clamp8_le _

/-! EAC (42_eac) -/

theorem eac11s_bounds (T : Config.Tables) (e : Word64) (p : Fin 16) : -32751 ≤ eac11s T e p ∧ eac11s T e p ≤ 32751 := by
  have hv : -1023 ≤ eac11sValue T e (columnMajor p) ∧ eac11sValue T e (columnMajor p) ≤ 1023 := by
    unfold eac11sValue
    split <;> exact clamp_bounds _ (by decide)
  rw [eac11s, ext11s, ext11u, ext11u]
  split <;> omega

/-! BC1 to BC3 (43_bc1_bc2_bc3) -/

theorem rgb565_isBytes (c : Nat) : IsBytes (rgb565 c) :=
  ⟨ext5_le (slice_lt c 11 15), ext6_le (slice_lt c 5 10), ext5_le (slice_lt c 0 4), le_refl _⟩

theorem blendRgb_isBytes {f : Nat → Nat → Nat} (hf : ∀ a b, a ≤ 255 → b ≤ 255 → f a b ≤ 255) {x y : Rgba} (hx : IsBytes x)
    (hy : IsBytes y) : IsBytes (blendRgb f x y) :=
  ⟨hf _ _ hx.r hy.r, hf _ _ hx.g hy.g, hf _ _ hx.b hy.b, le_refl _⟩

theorem palette4_isBytes (c0 c1 i : Nat) : IsBytes (palette4 c0 c1 i) := by
  unfold palette4
  split
  · exact rgb565_isBytes c0
  · exact rgb565_isBytes c1
  · exact blendRgb_isBytes (by omega) (rgb565_isBytes c0) (rgb565_isBytes c1)
  · exact blendRgb_isBytes (by omega) (rgb565_isBytes c0) (rgb565_isBytes c1)

theorem palette3_isBytes (alphaFmt : Bool) (c0 c1 i : Nat) : IsBytes (palette3 alphaFmt c0 c1 i) := by
  unfold palette3
  split
  · exact rgb565_isBytes c0
  · exact rgb565_isBytes c1
  · exact blendRgb_isBytes (by omega) (rgb565_isBytes c0) (rgb565_isBytes c1)
  · exact isBytes_setAlpha isBytes_zero (by split <;> decide)

theorem bc1Colour_isBytes (k : Word64) (allow3 alphaFmt : Bool) (p : Fin 16) : IsBytes (bc1Colour k allow3 alphaFmt p) := by
  unfold bc1Colour
  split
  · exact palette3_isBytes ..
  · exact palette4_isBytes ..

theorem bc2Alpha_le (l : Word64) (q : Fin 16) : bc2Alpha l q ≤ 255 := by
  have hwidth : 4 * q.val + 3 - 4 * q.val + 1 = 4 := by omega
  have h := slice_lt l.toNat (4 * q.val) (4 * q.val + 3)
  rw [hwidth] at h
  exact ext4_le h

theorem rampByte0_le (a : Word64) : rampByte0 a ≤ 255 := Nat.le_of_lt_succ (bits_lt a 0 7 (by omega))

theorem rampByte1_le (a : Word64) : rampByte1 a ≤ 255 := Nat.le_of_lt_succ (bits_lt a 8 15 (by omega))

theorem ramp8_le {e0 e1 : Nat} (h0 : e0 ≤ 255) (h1 : e1 ≤ 255) (i : Nat) : ramp8 e0 e1 i ≤ 255 := by
  unfold ramp8
  split <;> split <;> omega

theorem bc3Alpha_le (l : Word64) (q : Fin 16) : bc3Alpha l q ≤ 255 := ramp8_le (rampByte0_le l) (rampByte1_le l) _

/-! BC4 and BC5 (44_bc4_bc5): the ramp stays between 35 times the extreme endpoints. -/

theorem ramp35Entry_bounds {signed : Bool} {lo hi e0 e1 : Int} (h0 : lo ≤ e0 ∧ e0 ≤ hi) (h1 : lo ≤ e1 ∧ e1 ≤ hi)
    (hends : lo ≤ (rampEnds signed).1 ∧ (rampEnds signed).2 ≤ hi) (cmp0 cmp1 : Int) (i : Nat) :
    35 * lo ≤ ramp35Entry signed cmp0 cmp1 e0 e1 i ∧ ramp35Entry signed cmp0 cmp1 e0 e1 i ≤ 35 * hi := by
  have hle : (rampEnds signed).1 ≤ (rampEnds signed).2 := by cases signed <;> decide
  unfold ramp35Entry
  split <;> split <;> omega

/-- The least number an endpoint enters the ramp as (44_bc4_bc5 R211). -/
def rampMin (P : Config.Params) (signed : Bool) : Int := if signed then (if P.snormClamp then -127 else -128) else 0

/-- The greatest number an endpoint enters the ramp as (44_bc4_bc5 R211). -/
def rampMax (signed : Bool) : Int := if signed then 127 else 255

theorem rampEnd_bounds (P : Config.Params) (signed : Bool) {r : Nat} (hr : r ≤ 255) :
    rampMin P signed ≤ rampEnd P signed r ∧ rampEnd P signed r ≤ rampMax signed := by
  cases signed with
  | false => simp [rampEnd, rampCmp, rampMin, rampMax, hr]
  | true =>
    have hsext : -128 ≤ sext 8 r ∧ sext 8 r < 128 := sext_bounds (by decide) r
    cases hc : P.snormClamp <;> simp [rampEnd, rampCmp, rampMin, rampMax, hc] <;> omega

theorem rampEnds_bounds (P : Config.Params) (signed : Bool) :
    rampMin P signed ≤ (rampEnds signed).1 ∧ (rampEnds signed).2 ≤ rampMax signed := by
  cases signed with
  | false => exact ⟨le_refl _, le_refl _⟩
  | true => cases hc : P.snormClamp <;> simp [rampEnds, rampMin, rampMax, hc]

theorem rampValue_bounds (P : Config.Params) (signed : Bool) (a : Word64) (q : Fin 16) :
    35 * rampMin P signed ≤ rampValue P signed a q ∧ rampValue P signed a q ≤ 35 * rampMax signed :=
  ramp35Entry_bounds (rampEnd_bounds P signed (rampByte0_le a)) (rampEnd_bounds P signed (rampByte1_le a))
    (rampEnds_bounds P signed) ..

/-! BC6H (46_bc6h): raw fields, endpoints, unquantised endpoints, half-float patterns -/

/-- The greatest value a layout cell can contribute to its field. -/
def cellMax (c : Config.Cell) : Nat := (2 ^ (max c.lo c.hi - min c.lo c.hi + 1) - 1) * 2 ^ min c.a c.b

/-- The greatest value a header field can have, from its cells (46_bc6h R253). -/
def fieldMax (m : Config.Bc6hMode) (f : Config.HeaderField) : Nat :=
  ((m.cells.filter fun c => c.field = f).map cellMax).sum

theorem cellValue_le {b : Word128} {c : Config.Cell} {v : Nat} (h : cellValue b c = some v) : v ≤ cellMax c := by
  unfold cellValue at h
  rw [cellMax]
  split at h
  · next hab =>
    obtain ⟨x, hx, rfl⟩ := Option.map_eq_some_iff.mp h
    rw [min_eq_right hab]
    exact Nat.mul_le_mul_right _ (Nat.le_sub_one_of_lt (bits128_lt hx))
  · next hab =>
    obtain ⟨x, hx, rfl⟩ := Option.map_eq_some_iff.mp h
    rw [min_eq_left (not_le.mp hab).le, max_comm, min_comm c.lo]
    exact Nat.mul_le_mul_right _ (Nat.le_sub_one_of_lt (bits128_lt hx))

theorem sumCells_le {b : Word128} {cs : List Config.Cell} {v : Nat} (h : sumCells b cs = some v) : v ≤ (cs.map cellMax).sum := by
  induction cs generalizing v with
  | nil =>
    cases h
    exact le_refl _
  | cons c cs ih =>
    simp only [sumCells, Option.bind_eq_bind, Option.bind_eq_some_iff, Option.some.injEq] at h
    obtain ⟨x, hx, y, hy, rfl⟩ := h
    rw [List.map_cons, List.sum_cons]
    exact Nat.add_le_add (cellValue_le hx) (ih hy)

theorem headerField_le {b : Word128} {m : Config.Bc6hMode} {f : Config.HeaderField} {v : Nat} (h : headerField b m f = some v) :
    v ≤ fieldMax m f :=
  sumCells_le h

/-- What the ranges of BC6H rest on, mode by mode (46_bc6h R251, R254): endpoint widths, and raw fields that fit the endpoint width
where they are taken as they are, which is endpoint 0 and, in a mode without deltas, every endpoint. -/
structure Bc6hWidths (m : Config.Bc6hMode) : Prop where
  one_le : 1 ≤ m.epBits
  le_16 : m.epBits ≤ 16
  raw : ∀ i < 2 * m.ns, i = 0 ∨ m.tr = false → ∀ c ∈ [Channel.r, .g, .b], fieldMax m (.ep i c) < 2 ^ m.epBits

/-- Every printed BC6H mode has these widths. -/
theorem bc6hWidths_printed {k : Nat} {m : Config.Bc6hMode} (h : Config.bc6hModes[k]? = some m) : Bc6hWidths m := by
  have hwidths : ∀ k : Fin 14, Bc6hWidths Config.bc6hModes[k] := by
    intro k
    fin_cases k <;> constructor <;> decide
  obtain ⟨hk, rfl⟩ := Vector.getElem?_eq_some_iff.mp h
  exact hwidths ⟨k, hk⟩

/-- Mode m13 alone has endpoints of 16 bits (46_bc6h R251). -/
theorem bc6hModes_epBits_16 : ∀ k : Fin 14, Config.bc6hModes[k].epBits = 16 → k = 13 := by decide

/-- The range of an endpoint of `n` bits. -/
def EndpointRange (signed : Bool) (n : Nat) (x : Int) : Prop :=
  if signed then -2 ^ (n - 1) ≤ x ∧ x < 2 ^ (n - 1) else 0 ≤ x ∧ x < 2 ^ n

theorem endpointRange_of_lt {n raw : Nat} (h : raw < 2 ^ n) : EndpointRange false n raw :=
  ⟨Int.natCast_nonneg raw, by exact_mod_cast h⟩

/-- Endpoint 0 (46_bc6h R256). -/
theorem bc6hBase_range (signed : Bool) {m : Config.Bc6hMode} (hm : Bc6hWidths m) {raw0 : Nat} (h : raw0 < 2 ^ m.epBits) :
    EndpointRange signed m.epBits (bc6hBase signed m raw0) := by
  cases signed with
  | false => exact endpointRange_of_lt h
  | true => exact sext_bounds hm.one_le raw0

/-- The other endpoints (46_bc6h R257): the delta sum wraps at the endpoint width. -/
theorem bc6hDelta_range (signed : Bool) {m : Config.Bc6hMode} (hm : Bc6hWidths m) (c : Channel) (raw0 : Nat) {rawI : Nat}
    (h : m.tr = false → rawI < 2 ^ m.epBits) : EndpointRange signed m.epBits (bc6hDelta signed m c raw0 rawI) := by
  cases signed with
  | true => exact sext_bounds hm.one_le _
  | false =>
    cases htr : m.tr with
    | false => simpa [bc6hDelta, htr] using endpointRange_of_lt (h htr)
    | true =>
      have hpos : (0 : Int) < 2 ^ m.epBits := by positivity
      have hmod : ∀ x : Int, EndpointRange false m.epBits (x % 2 ^ m.epBits) := fun x =>
        ⟨Int.emod_nonneg x hpos.ne', Int.emod_lt_of_pos x hpos⟩
      simpa [bc6hDelta, htr] using hmod _

theorem bc6hEndpoint_range {signed : Bool} {b : Word128} {m : Config.Bc6hMode} (hm : Bc6hWidths m) {i : Nat} (hi : i < 2 * m.ns)
    {c : Channel} {x : Int} (h : bc6hEndpoint signed b m i c = some x) : EndpointRange signed m.epBits x := by
  simp only [bc6hEndpoint, Option.bind_eq_bind, Option.bind_eq_some_iff, Option.some.injEq] at h
  obtain ⟨raw0, h0, rawI, hI, rfl⟩ := h
  have hc : c ∈ [Channel.r, .g, .b] := by cases c <;> decide
  split
  · exact bc6hBase_range signed hm ((headerField_le h0).trans_lt (hm.raw 0 (by omega) (.inl rfl) c hc))
  · exact bc6hDelta_range signed hm c raw0 fun htr => (headerField_le hI).trans_lt (hm.raw i hi (.inr htr) c hc)

/-- The least value of an unquantised endpoint of `n` bits (46_bc6h R258, R259). -/
def unqMin (signed : Bool) (n : Nat) : Int := if signed then (if n = 16 then -32768 else -32767) else 0

/-- The greatest value of an unquantised endpoint (46_bc6h R258, R259). -/
def unqMax (signed : Bool) : Int := if signed then 32767 else 65535

theorem unqU_bounds {n : Nat} (h1 : 1 ≤ n) (h16 : n ≤ 16) {x : Int} (h0 : 0 ≤ x) (hx : x < 2 ^ n) :
    0 ≤ unqU x n ∧ unqU x n ≤ 65535 := by
  obtain ⟨k, rfl⟩ := Nat.exists_eq_add_of_le' h1
  have hpow : (2 : Int) ^ (k + 1) ≤ 2 ^ 16 := pow_le_pow_right₀ (by decide) h16
  have hpos : (0 : Int) < 2 ^ k := by positivity
  rw [unqU, shr, Nat.add_sub_cancel]
  split
  · omega
  · rw [pow_succ] at hx ⊢
    split
    · decide
    · split
      · decide
      · refine ⟨Int.ediv_nonneg (by omega) hpos.le, Int.le_of_lt_add_one (Int.ediv_lt_of_lt_mul hpos ?_)⟩
        omega

theorem unqSMag_le (a n : Nat) : unqSMag a n ≤ 32767 := by
  have hpos : 0 < 2 ^ (n - 1) := Nat.two_pow_pos _
  rw [unqSMag]
  split
  · decide
  · split
    · decide
    · exact Nat.le_of_lt_succ ((Nat.div_lt_iff_lt_mul hpos).mpr (by omega))

theorem unqS_bounds {n : Nat} (h16 : n ≤ 16) {x : Int} (h0 : -2 ^ (n - 1) ≤ x) (hx : x < 2 ^ (n - 1)) :
    unqMin true n ≤ unqS x n ∧ unqS x n ≤ 32767 := by
  have hmag := unqSMag_le x.natAbs n
  simp only [unqMin, if_true]
  rw [unqS]
  split
  · next hge =>
    obtain rfl : n = 16 := by omega
    norm_num at h0 hx ⊢
    omega
  · next hlt =>
    rw [if_neg (by omega)]
    split <;> omega

theorem unq_bounds {signed : Bool} {n : Nat} (h1 : 1 ≤ n) (h16 : n ≤ 16) {x : Int} (h : EndpointRange signed n x) :
    unqMin signed n ≤ unq signed x n ∧ unq signed x n ≤ unqMax signed := by
  cases signed with
  | false => exact unqU_bounds h1 h16 h.1 h.2
  | true => exact unqS_bounds h16 h.1 h.2

/-- All three channels of an unquantised endpoint of `n` bits lie in its range. -/
structure UnqRange (signed : Bool) (n : Nat) (u : Rgb) : Prop where
  r : unqMin signed n ≤ u.r ∧ u.r ≤ unqMax signed
  g : unqMin signed n ≤ u.g ∧ u.g ≤ unqMax signed
  b : unqMin signed n ≤ u.b ∧ u.b ≤ unqMax signed

theorem unqRange_default (signed : Bool) (n : Nat) : UnqRange signed n default := by
  have h : unqMin signed n ≤ 0 ∧ 0 ≤ unqMax signed := by
    rw [unqMin, unqMax]
    constructor <;> (repeat' split) <;> decide
  exact ⟨h, h, h⟩

theorem bc6hUnq_range {signed : Bool} {b : Word128} {m : Config.Bc6hMode} (hm : Bc6hWidths m) {i : Nat} (hi : i < 2 * m.ns)
    {u : Rgb} (h : bc6hUnq signed b m i = some u) : UnqRange signed m.epBits u := by
  simp only [bc6hUnq, Option.bind_eq_bind, Option.bind_eq_some_iff, Option.some.injEq] at h
  obtain ⟨r, hr, g, hg, bl, hb, rfl⟩ := h
  have hunq : ∀ {c x}, bc6hEndpoint signed b m i c = some x →
      unqMin signed m.epBits ≤ unq signed x m.epBits ∧ unq signed x m.epBits ≤ unqMax signed :=
    fun h => unq_bounds hm.one_le hm.le_16 (bc6hEndpoint_range hm hi h)
  exact ⟨hunq hr, hunq hg, hunq hb⟩

/-- `finU` answers a finite half-float (46_bc6h R262). -/
theorem finU_le {v : Int} (h' : v ≤ 65535) : finU v ≤ 0x7BFF := by
  rw [finU, shr]
  omega

/-- `finS` answers a finite half-float, never minus zero, or minus infinity for -32768 alone (46_bc6h R263). -/
theorem finS_range {v : Int} (h : -32768 ≤ v) (h' : v ≤ 32767) :
    finS v ≤ 0x7BFF ∨ (0x8001 ≤ finS v ∧ finS v ≤ 0xFBFF) ∨ (v = -32768 ∧ finS v = 0xFC00) := by
  rw [finS]
  split <;> omega

/-! BC7 (47_bc7) -/

theorem bc7Unq_le (c : Config.Bc7Mode) (w raw p : Nat) : bc7Unq c w raw p ≤ 255 := by
  unfold bc7Unq
  split
  · exact le_refl _
  · split <;> exact rep8_le _ _

/-- Every endpoint has byte channels, whatever its fields (47_bc7 R295). -/
theorem bc7Endpoint_isBytes {b : Word128} {m : Nat} {c : Config.Bc7Mode} {e : Nat} {v : Rgba}
    (h : bc7Endpoint b m c e = some v) : IsBytes v := by
  simp only [bc7Endpoint, Option.bind_eq_bind, Option.bind_eq_some_iff, Option.some.injEq] at h
  obtain ⟨r, -, g, -, bl, -, a, -, p, -, rfl⟩ := h
  exact ⟨bc7Unq_le .., bc7Unq_le .., bc7Unq_le .., bc7Unq_le ..⟩

theorem interp8_le {a b w : Nat} (ha : a ≤ 255) (hb : b ≤ 255) (hw : w ≤ 64) : interp8 a b w ≤ 255 := by
  have h : 0 ≤ interp a b w ∧ interp a b w ≤ 255 := interp_bounds (by omega) (by omega) hw
  rw [interp8]
  omega

theorem bc7Blend_isBytes {e0 e1 : Rgba} (h0 : IsBytes e0) (h1 : IsBytes e1) {wc wa : Nat} (hc : wc ≤ 64) (ha : wa ≤ 64) :
    IsBytes (bc7Blend e0 e1 wc wa) :=
  ⟨interp8_le h0.r h1.r hc, interp8_le h0.g h1.g hc, interp8_le h0.b h1.b hc, interp8_le h0.a h1.a ha⟩

/-- The rotation swap permutes the channels (47_bc7 R302). -/
theorem rotate_isBytes {v : Rgba} (h : IsBytes v) (rot : Nat) : IsBytes (rotate rot v) := by
  unfold rotate
  split
  · exact ⟨h.a, h.g, h.b, h.r⟩
  · exact ⟨h.r, h.a, h.b, h.g⟩
  · exact ⟨h.r, h.g, h.a, h.b⟩
  · exact h

theorem bc7Value_isBytes (c : Config.Bc7Mode) (isel : Nat) {e0 e1 : Rgba} (h0 : IsBytes e0) (h1 : IsBytes e1) (i1 i2 : Nat) :
    IsBytes (bc7Value Config.Tables.printed c isel e0 e1 i1 i2) :=
  bc7Blend_isBytes h0 h1 (weight_le ..) (weight_le ..)

end Sys2Proof.Proofs
end

section
/-! PROOFS. The lanes of every response lie in the ranges of its format (30_encoding R63, 46_bc6h R266): decoder by decoder, then
for `decodeFn`, then along the steps. -/

namespace Sys2Proof.Proofs

open Sys2Proof Sys2Proof.Machine Sys2Proof.Safety Sys2Proof.Laws

/-! Lanes -/

theorem rampValue_laneOk (P : Config.Params) (signed : Bool) (a : Word64) (q : Fin 16) :
    rampLaneOk P signed (laneZ (rampValue P signed a q)) := by
  obtain ⟨hmin, hmax⟩ := rampValue_bounds P signed a q
  generalize rampValue P signed a q = v at hmin hmax
  cases signed with
  | false =>
    change 35 * 0 ≤ v at hmin
    change v ≤ 35 * 255 at hmax
    change (laneZ v).toNat ≤ 8925
    rw [laneZ_toNat (by omega) (by omega)]
    omega
  | true =>
    change v ≤ 35 * 127 at hmax
    simp only [rampMin, if_true] at hmin
    have hv : (laneZ v).toInt = v := laneZ_toInt (by split at hmin <;> omega) (by omega)
    simp only [rampLaneOk, if_true, hv]
    constructor
    · split at hmin <;> simp_all
    · exact hmax

theorem eac11s_laneOk (T : Config.Tables) (e : Word64) (p : Fin 16) : eacLaneOk true (laneZ (eac11s T e p)) := by
  obtain ⟨hmin, hmax⟩ := eac11s_bounds T e p
  simp only [eacLaneOk, if_true]
  rw [laneZ_toInt (by omega) (by omega)]
  exact ⟨hmin, hmax⟩

theorem halfLaneOk_zero (P : Config.Params) (signed : Bool) (b : Byte) : halfLaneOk P signed b 0 := .inl (by decide)

/-- One BC6H channel between endpoints in range; minus infinity needs an unquantised endpoint of -32768, which 16-bit endpoints
alone have (46_bc6h R266 (e)). -/
theorem bc6hChannel_halfLaneOk {P : Config.Params} {signed : Bool} {b : Byte} {n : Nat}
    (h13 : n = 16 → bc6hModeNumber P.tables b.toNat = some 13) {u0 u1 : Int} (h0 : unqMin signed n ≤ u0 ∧ u0 ≤ unqMax signed)
    (h1 : unqMin signed n ≤ u1 ∧ u1 ≤ unqMax signed) {w : Nat} (hw : w ≤ 64) :
    halfLaneOk P signed b (bc6hChannel signed u0 u1 w) := by
  obtain ⟨hmin, hmax⟩ := interp_bounds h0 h1 hw
  rw [bc6hChannel]
  generalize interp u0 u1 w = v at hmin hmax
  cases signed with
  | false => exact .inl (laneN_le (finU_le hmax) (by decide))
  | true =>
    change v ≤ 32767 at hmax
    simp only [unqMin, if_true] at hmin
    have hrange := finS_range (v := v) (by split at hmin <;> omega) hmax
    have hlane : (laneN (fin true v)).toNat = finS v := laneN_toNat (v := finS v) (by omega)
    obtain hpos | hneg | ⟨hv, hinf⟩ := hrange
    · exact .inl (by omega)
    · exact .inr (.inl ⟨rfl, by omega, by omega⟩)
    · have hn : n = 16 := by
        by_contra hn
        rw [if_neg hn] at hmin
        omega
      exact .inr (.inr ⟨rfl, h13 hn, by omega⟩)

/-! Decoders -/

/-- Every pixel of a block is as `q` says. -/
def AllPixels (q : Pixel → Prop) (px : Pixels) : Prop := ∀ p : Fin 16, q px[p]

theorem allPixels_pixels {q : Pixel → Prop} {f : Fin 16 → Pixel} (h : ∀ p, q (f p)) : AllPixels q (pixels f) := by
  intro p
  rw [pixels_getElem]
  exact h p

theorem AllPixels.of_some {q : Pixel → Prop} {px px' : Pixels} (hq : AllPixels q px) (h : some px = some px') :
    AllPixels q px' :=
  Option.some.inj h ▸ hq

/-- Four byte lanes: the formats with alpha, and BC1 to BC3 and BC7 (30_encoding R63). -/
def RgbaLanes (v : Pixel) : Prop := v.c0.toNat ≤ 255 ∧ v.c1.toNat ≤ 255 ∧ v.c2.toNat ≤ 255 ∧ v.c3.toNat ≤ 255

/-- Three byte lanes and an unused one: ETC without alpha (30_encoding R63). -/
def RgbLanes (v : Pixel) : Prop := v.c0.toNat ≤ 255 ∧ v.c1.toNat ≤ 255 ∧ v.c2.toNat ≤ 255 ∧ v.c3 = 0

/-- One used lane (30_encoding R63). -/
def OneLane (ok : Lane → Prop) (v : Pixel) : Prop := ok v.c0 ∧ v.c1 = 0 ∧ v.c2 = 0 ∧ v.c3 = 0

/-- Two used lanes (30_encoding R63). -/
def TwoLanes (ok : Lane → Prop) (v : Pixel) : Prop := ok v.c0 ∧ ok v.c1 ∧ v.c2 = 0 ∧ v.c3 = 0

/-- Three used lanes: BC6H (30_encoding R63). -/
def ThreeLanes (ok : Lane → Prop) (v : Pixel) : Prop := ok v.c0 ∧ ok v.c1 ∧ ok v.c2 ∧ v.c3 = 0

theorem etc1Rgb8Pixels_lanes (P : Config.Params) (d : Block) : AllPixels RgbLanes (etc1Rgb8Pixels P d) :=
  allPixels_pixels fun _ => isBytes_pixelRgb (etcColour_isBytes ..)

theorem etc2Rgb8Pixels_lanes (P : Config.Params) (d : Block) : AllPixels RgbLanes (etc2Rgb8Pixels P d) :=
  allPixels_pixels fun _ => isBytes_pixelRgb (etcColour_isBytes ..)

theorem etc2Pta1Pixels_lanes (P : Config.Params) (d : Block) : AllPixels RgbaLanes (etc2Pta1Pixels P d) :=
  allPixels_pixels fun _ => isBytes_pixel (etcColour_isBytes ..)

theorem etc2EacPixels_lanes (P : Config.Params) (d : Block) : AllPixels RgbaLanes (etc2EacPixels P d) :=
  allPixels_pixels fun _ => isBytes_pixel (isBytes_setAlpha (etcColour_isBytes ..) (clamp8_le _))

theorem eacR11Pixels_lanes (T : Config.Tables) (d : Block) : AllPixels (OneLane (eacLaneOk false)) (eacR11Pixels T d) :=
  allPixels_pixels fun _ => ⟨trivial, rfl, rfl, rfl⟩

theorem eacSignedR11Pixels_lanes (T : Config.Tables) (d : Block) :
    AllPixels (OneLane (eacLaneOk true)) (eacSignedR11Pixels T d) :=
  allPixels_pixels fun p => ⟨eac11s_laneOk T _ p, rfl, rfl, rfl⟩

theorem eacRg11Pixels_lanes (T : Config.Tables) (d : Block) : AllPixels (TwoLanes (eacLaneOk false)) (eacRg11Pixels T d) :=
  allPixels_pixels fun _ => ⟨trivial, trivial, rfl, rfl⟩

theorem eacSignedRg11Pixels_lanes (T : Config.Tables) (d : Block) :
    AllPixels (TwoLanes (eacLaneOk true)) (eacSignedRg11Pixels T d) :=
  allPixels_pixels fun p => ⟨eac11s_laneOk T _ p, eac11s_laneOk T _ p, rfl, rfl⟩

theorem bc1RgbPixels_lanes (d : Block) : AllPixels RgbaLanes (bc1RgbPixels d) :=
  allPixels_pixels fun _ => isBytes_pixel (bc1Colour_isBytes ..)

theorem bc1RgbaPixels_lanes (d : Block) : AllPixels RgbaLanes (bc1RgbaPixels d) :=
  allPixels_pixels fun _ => isBytes_pixel (bc1Colour_isBytes ..)

theorem bc2Pixels_lanes (d : Block) : AllPixels RgbaLanes (bc2Pixels d) :=
  allPixels_pixels fun _ => isBytes_pixel (isBytes_setAlpha (bc1Colour_isBytes ..) (bc2Alpha_le ..))

theorem bc3Pixels_lanes (d : Block) : AllPixels RgbaLanes (bc3Pixels d) :=
  allPixels_pixels fun _ => isBytes_pixel (isBytes_setAlpha (bc1Colour_isBytes ..) (bc3Alpha_le ..))

theorem bc4Pixels_lanes (P : Config.Params) (signed : Bool) (d : Block) :
    AllPixels (OneLane (rampLaneOk P signed)) (bc4Pixels P signed d) :=
  allPixels_pixels fun p => ⟨rampValue_laneOk P signed _ p, rfl, rfl, rfl⟩

theorem bc5Pixels_lanes (P : Config.Params) (signed : Bool) (d : Block) :
    AllPixels (TwoLanes (rampLaneOk P signed)) (bc5Pixels P signed d) :=
  allPixels_pixels fun p => ⟨rampValue_laneOk P signed _ p, rampValue_laneOk P signed _ p, rfl, rfl⟩

/-- The block of a mode with the printed widths; a mode with 16-bit endpoints must be m13. -/
theorem bc6hModeDecode_lanes {P : Config.Params} {signed : Bool} {w : Word128} {m : Config.Bc6hMode}
    (hm : Bc6hWidths m) {b : Byte} (h13 : m.epBits = 16 → bc6hModeNumber P.tables b.toNat = some 13)
    {px : Pixels} (h : bc6hModeDecode Config.Tables.printed signed w m = some px) :
    AllPixels (ThreeLanes (halfLaneOk P signed b)) px := by
  simp only [bc6hModeDecode, Option.bind_eq_bind, Option.bind_eq_some_iff, Option.some.injEq] at h
  obtain ⟨us, hus, part, -, idx, -, rfl⟩ := h
  have hmem : ∀ u ∈ us, UnqRange signed m.epBits u :=
    forall_mem_of_mapM (fun i hi u hu => bc6hUnq_range hm (List.mem_range.mp hi) hu) hus
  have hu : ∀ i, UnqRange signed m.epBits (us.getD i default) := getD_of_forall_mem hmem (unqRange_default signed _)
  refine allPixels_pixels fun p => ?_
  have hw := weight_le m.n (idx.1.getD p.val 0)
  have h0 := hu (2 * subset Config.Tables.printed m.ns part p.val)
  have h1 := hu (2 * subset Config.Tables.printed m.ns part p.val + 1)
  exact ⟨bc6hChannel_halfLaneOk h13 h0.r h1.r hw, bc6hChannel_halfLaneOk h13 h0.g h1.g hw,
    bc6hChannel_halfLaneOk h13 h0.b h1.b hw, rfl⟩

theorem bc6hPixels_lanes {P : Config.Params} (hT : P.tables = Config.Tables.printed) {signed : Bool} {d : Block} {px : Pixels}
    (h : bc6hPixels P.tables signed d = some px) : AllPixels (ThreeLanes (halfLaneOk P signed d[0])) px := by
  unfold bc6hPixels at h
  split at h
  · cases h
    have hzero := halfLaneOk_zero P signed d[0]
    exact allPixels_pixels fun _ => ⟨hzero, hzero, hzero, rfl⟩
  · next m hm =>
    obtain ⟨k, hk, hrow⟩ := bc6hMode_row hm
    rw [hT] at hrow h
    refine bc6hModeDecode_lanes (bc6hWidths_printed hrow) (fun hep => ?_) h
    obtain ⟨hlt, rfl⟩ := Vector.getElem?_eq_some_iff.mp hrow
    obtain rfl : k = 13 := congrArg Fin.val (bc6hModes_epBits_16 ⟨k, hlt⟩ hep)
    exact hk

theorem bc7ModeDecode_lanes {b : Word128} {m : Nat} {c : Config.Bc7Mode} {px : Pixels}
    (h : bc7ModeDecode Config.Tables.printed b m c = some px) : AllPixels RgbaLanes px := by
  simp only [bc7ModeDecode, Option.bind_eq_bind, Option.bind_eq_some_iff, Option.some.injEq] at h
  obtain ⟨part, -, rot, -, isel, -, es, hes, idx1, -, idx2, -, rfl⟩ := h
  have hmem : ∀ v ∈ es, IsBytes v := forall_mem_of_mapM (fun _ _ _ hv => bc7Endpoint_isBytes hv) hes
  have he : ∀ i, IsBytes (es.getD i ⟨0, 0, 0, 0⟩) := getD_of_forall_mem hmem isBytes_zero
  exact allPixels_pixels fun p => isBytes_pixel (rotate_isBytes (bc7Value_isBytes c isel (he _) (he _) _ _) rot)

theorem bc7Pixels_lanes {d : Block} {px : Pixels} (h : bc7Pixels Config.Tables.printed d = some px) : AllPixels RgbaLanes px := by
  unfold bc7Pixels at h
  split at h
  · cases h
    exact allPixels_pixels fun _ => isBytes_pixel isBytes_zero
  · obtain ⟨c, -, hc⟩ := Option.bind_eq_some_iff.mp h
    exact bc7ModeDecode_lanes hc

/-! Responses and steps -/

/-- Whatever `decodeFn` answers with the printed tables lies in the ranges of its format. -/
theorem decodeFn_lanes {P : Config.Params} (hT : P.tables = Config.Tables.printed) {fmt : FmtCode} {d : Block} {px : Pixels}
    (h : decodeFn P fmt d = some px) : AllPixels (PixelOk P fmt d[0]) px := by
  unfold decodeFn at h
  unfold PixelOk
  generalize fmt.toNat = n at h ⊢
  split at h
  case h_1 => exact (etc1Rgb8Pixels_lanes P d).of_some h
  case h_2 => exact (eacR11Pixels_lanes P.tables d).of_some h
  case h_3 => exact (eacSignedR11Pixels_lanes P.tables d).of_some h
  case h_4 => exact (eacRg11Pixels_lanes P.tables d).of_some h
  case h_5 => exact (eacSignedRg11Pixels_lanes P.tables d).of_some h
  case h_6 | h_7 => exact (etc2Rgb8Pixels_lanes P d).of_some h
  case h_8 | h_9 => exact (etc2Pta1Pixels_lanes P d).of_some h
  case h_10 | h_11 => exact (etc2EacPixels_lanes P d).of_some h
  case h_12 | h_13 => exact (bc1RgbPixels_lanes d).of_some h
  case h_14 | h_15 => exact (bc1RgbaPixels_lanes d).of_some h
  case h_16 | h_17 => exact (bc2Pixels_lanes d).of_some h
  case h_18 | h_19 => exact (bc3Pixels_lanes d).of_some h
  case h_20 => exact (bc4Pixels_lanes P false d).of_some h
  case h_21 => exact (bc4Pixels_lanes P true d).of_some h
  case h_22 => exact (bc5Pixels_lanes P false d).of_some h
  case h_23 => exact (bc5Pixels_lanes P true d).of_some h
  case h_24 | h_25 => exact bc6hPixels_lanes hT h
  case h_26 | h_27 => exact bc7Pixels_lanes (hT ▸ h)
  case h_28 => cases h

/-- Whoever clears `VALID` keeps the ranges. -/
theorem lanesInRange_of_not_valid {t : State} (h : t.valid = false) : LanesInRange t := by
  intro hv
  rw [h] at hv
  cases hv

/-- A `Decode` step with the printed tables establishes the ranges, whatever held before, and keeps the tables. -/
theorem exec_lanesInRange {r : Request} {s t : State} (hT : UsesPrintedTables s) (h : exec (decodeRequest r) s = .next t) :
    UsesPrintedTables t ∧ LanesInRange t := by
  obtain ⟨-, px, hpx, rfl⟩ | ⟨-, rfl⟩ := exec_decodeRequest_next h
  · exact ⟨hT, fun _ => decodeFn_lanes hT hpx⟩
  · exact ⟨hT, lanesInRange_of_not_valid (raiseIllegalFormat_valid s r.fmt r.d)⟩

/-- Every action keeps tables and ranges: a read changes no register, `RESET` clears `VALID`, and a `Decode` step establishes the
ranges. -/
theorem perform_lanesInRange {a : Action} {s t : State} (hT : UsesPrintedTables s) (hr : LanesInRange s)
    (h : perform a s = .next t) : UsesPrintedTables t ∧ LanesInRange t := by
  obtain ⟨-, rfl⟩ | ⟨r, -, hexec⟩ | ⟨p, -, -, rfl⟩ | ⟨-, rfl⟩ := perform_next h
  · exact ⟨hT, lanesInRange_of_not_valid (resetUnit_valid s)⟩
  · exact exec_lanesInRange hT hexec
  · exact ⟨hT, hr⟩
  · exact ⟨hT, hr⟩

/-- Settles O16: an idle step changes nothing, and the requester's list is no part of the invariant. -/
theorem everyStepKeepsTheLaneRanges : Obligations.EveryStepKeepsTheLaneRanges := by
  intro s t hT hr h
  obtain ⟨-, rfl⟩ | ⟨a, rest, -, ha⟩ := step_next h
  · exact ⟨hT, hr⟩
  · exact perform_lanesInRange (s := { s with todo := rest }) hT hr ha

end Sys2Proof.Proofs
end

section
/-! PROOFS. The bit-field extractor and the shared primitives, bit by bit (40_bitfield_extractor R103, R104, R110 to R112). -/

namespace Sys2Proof.Proofs

open Sys2Proof Sys2Proof.Machine Sys2Proof.Laws

/-! Slices and reversals -/

/-- Bit `i` of `v[hi:lo]` is bit `lo + i` of `v` (00_scope R10). -/
theorem slice_testBit (v : Nat) {lo hi i : Nat} (h : i ≤ hi - lo) : (slice v lo hi).testBit i = v.testBit (lo + i) := by
  rw [slice, Nat.testBit_mod_two_pow, Nat.testBit_div_two_pow, Nat.add_comm i lo, decide_eq_true (by omega), Bool.true_and]

/-- Bit `i` of `rev_n(v)` is bit `n - 1 - i` of `v` (40_bitfield_extractor R103 (2)). -/
theorem revBits_testBit {n i : Nat} (v : Nat) (h : i < n) : (revBits n v).testBit i = v.testBit (n - 1 - i) := by
  induction n generalizing v i with
  | zero => exact absurd h (Nat.not_lt_zero i)
  | succ n ih =>
    rw [revBits, Nat.mul_comm, Nat.testBit_two_pow_mul_add _ (revBits_lt n (v / 2)), Nat.add_sub_cancel]
    split
    · next hi =>
      rw [ih _ hi, ← Nat.testBit_add_one]
      congr 1
      omega
    · next hi =>
      obtain rfl : i = n := by omega
      rw [Nat.sub_self]
      simp

/-- The reversed extraction is the reversal of the slice. -/
theorem bits128_reversed (b : Word128) {i j : Nat} (h : i < j) (hj : j ≤ 127) :
    bits128 b j i = some (revBits (j - i + 1) (slice b.toNat i j)) := by
  rw [bits128, if_pos ⟨hj, by omega⟩, if_neg (by omega)]

/-- Outside the block the extraction has no result (log entry 12). -/
theorem bits128_none (b : Word128) {i j : Nat} (h : 127 < i ∨ 127 < j) : bits128 b i j = none := by
  rw [bits128, if_neg (by omega)]

/-! Slices of the pair (`LO`, `HI`) -/

/-- The pair from bit `a` of `LO` on. -/
theorem join128_div_two_pow (l h : Word64) {a : Nat} (ha : a ≤ 64) :
    (join128 l h).toNat / 2 ^ a = l.toNat / 2 ^ a + 2 ^ (64 - a) * h.toNat := by
  have hsplit : h.toNat * 2 ^ 64 = 2 ^ a * (2 ^ (64 - a) * h.toNat) := by
    rw [← Nat.mul_assoc, ← Nat.pow_add, Nat.add_sub_cancel' ha, Nat.mul_comm]
  rw [join128_toNat, hsplit, Nat.add_mul_div_left _ _ (Nat.two_pow_pos a)]

/-- A range that ends in `LO` is a slice of `LO`. -/
theorem slice_join128_lo (l h : Word64) {a b : Nat} (hab : a ≤ b) (hb : b ≤ 63) :
    slice (join128 l h).toNat a b = slice l.toNat a b := by
  have hpow : 2 ^ (64 - a) = 2 ^ (b - a + 1) * 2 ^ (63 - b) := by
    rw [← Nat.pow_add]
    congr 1
    omega
  rw [slice, join128_div_two_pow l h (by omega), hpow, Nat.mul_assoc, Nat.add_mul_mod_self_left, slice]

/-- A range that starts in `HI` is a slice of `HI`. -/
theorem slice_join128_hi (l h : Word64) {a b : Nat} (ha : 64 ≤ a) :
    slice (join128 l h).toNat a b = h.toNat / 2 ^ (a - 64) % 2 ^ (b - a + 1) := by
  have hword : (join128 l h).toNat / 2 ^ 64 = h.toNat := by
    have hl := l.isLt
    rw [join128_toNat]
    omega
  have hpow : 2 ^ a = 2 ^ 64 * 2 ^ (a - 64) := by rw [← Nat.pow_add, Nat.add_sub_cancel' ha]
  rw [slice, hpow, ← Nat.div_div_eq_div_mul, hword]

/-- A range that straddles bit 64 is the top of `LO`, and above it the bottom of `HI`. -/
theorem slice_join128_straddle (l h : Word64) {a b : Nat} (ha : a ≤ 63) (hb : 63 < b) :
    slice (join128 l h).toNat a b = l.toNat / 2 ^ a + h.toNat % 2 ^ (b - 63) * 2 ^ (64 - a) := by
  have htop : l.toNat / 2 ^ a < 2 ^ (64 - a) := by
    rw [Nat.div_lt_iff_lt_mul (Nat.two_pow_pos a), ← Nat.pow_add, Nat.sub_add_cancel (by omega)]
    exact l.isLt
  have hpow : 2 ^ (b - a + 1) = 2 ^ (64 - a) * 2 ^ (b - 63) := by
    rw [← Nat.pow_add]
    congr 1
    omega
  rw [slice, join128_div_two_pow l h (by omega), hpow, Nat.mod_mul, Nat.add_mul_mod_self_left, Nat.mod_eq_of_lt htop,
    Nat.add_mul_div_left _ _ (Nat.two_pow_pos _), Nat.div_eq_of_lt htop, Nat.zero_add, Nat.mul_comm]

/-- Settles O20: a forward extraction is a slice of the pair, a reversed one the reversal of that slice. -/
theorem extractionForwardAndReversed : Obligations.ExtractionForwardAndReversed := by
  intro l h
  refine ⟨fun a b hab hb => ?_, fun a b hab hb => ?_, fun a b => bits128_none _⟩
  · have hbits : ∀ i ≤ b - a, (slice (join128 l h).toNat a b).testBit i = (join128 l h).getLsbD (a + i) := by
      intro i hi
      rw [slice_testBit _ hi, BitVec.testBit_toNat]
    exact ⟨_, bits128_forward _ hab hb, slice_lt _ a b, hbits, slice_join128_lo l h hab, slice_join128_hi l h,
      slice_join128_straddle l h⟩
  · refine ⟨_, bits128_reversed _ hab hb, revBits_lt _ _, fun i hi => ?_⟩
    have hplace : a + (b - a + 1 - 1 - i) = b - i := by omega
    rw [revBits_testBit _ (by omega), slice_testBit _ (by omega), hplace, BitVec.testBit_toNat]

/-! Sign extension -/

/-- The test of `sext` is on the sign bit. -/
theorem two_pow_le_two_mul_mod_iff (k v : Nat) : 2 ^ (k + 1) ≤ 2 * (v % 2 ^ (k + 1)) ↔ v.testBit k = true := by
  have hlow : v % 2 ^ k < 2 ^ k := Nat.mod_lt _ (Nat.two_pow_pos k)
  have hbit : v / 2 ^ k % 2 = 0 ∨ v / 2 ^ k % 2 = 1 := Nat.mod_two_eq_zero_or_one _
  rw [Nat.testBit_eq_decide_div_mod_eq, decide_eq_true_iff, Nat.pow_succ, Nat.mod_mul]
  obtain h0 | h1 := hbit
  · rw [h0]
    omega
  · rw [h1]
    omega

theorem sext_of_sign {n v : Nat} (hn : 1 ≤ n) (h : v.testBit (n - 1) = true) : sext n v = (v % 2 ^ n : Nat) - 2 ^ n := by
  obtain ⟨k, rfl⟩ := Nat.exists_eq_add_of_le' hn
  rw [sext, if_pos ((two_pow_le_two_mul_mod_iff k v).mpr h)]

theorem sext_of_not_sign {n v : Nat} (hn : 1 ≤ n) (h : v.testBit (n - 1) = false) : sext n v = (v % 2 ^ n : Nat) := by
  obtain ⟨k, rfl⟩ := Nat.exists_eq_add_of_le' hn
  rw [sext, if_neg (mt (two_pow_le_two_mul_mod_iff k v).mp (ne_true_of_eq_false h))]

/-- Sign extension changes its argument by a multiple of `2^n`. -/
theorem sext_emod (n v : Nat) : sext n v % 2 ^ n = (v % 2 ^ n : Nat) := by
  have hlt : ((v % 2 ^ n : Nat) : Int) < 2 ^ n := by exact_mod_cast Nat.mod_lt v (Nat.two_pow_pos n)
  have hmod : ((v % 2 ^ n : Nat) : Int) % 2 ^ n = (v % 2 ^ n : Nat) := Int.emod_eq_of_lt (Int.natCast_nonneg _) hlt
  rw [sext]
  split
  · rw [Int.sub_emod_right, hmod]
  · exact hmod

/-- Settles O21, by the sign bit. -/
theorem signExtensionIsTwosComplement : Obligations.SignExtensionIsTwosComplement := fun n v hn =>
  ⟨sext_of_sign hn, sext_of_not_sign hn, (sext_bounds hn v).1, (sext_bounds hn v).2, sext_emod n v⟩

/-! Bit replication -/

/-- A number shifted clear of another has no bit in common with it. -/
theorem shiftLeft_and_of_lt {i b : Nat} (h : b < 2 ^ i) (a : Nat) : (a <<< i) &&& b = 0 := by
  refine Nat.eq_of_testBit_eq fun j => ?_
  rw [Nat.testBit_and, Nat.testBit_shiftLeft, Nat.zero_testBit]
  by_cases hj : i ≤ j
  · rw [Nat.testBit_lt_two_pow (h.trans_le (Nat.pow_le_pow_right (by decide) hj)), Bool.and_false]
  · rw [decide_eq_false hj, Bool.false_and, Bool.false_and]

/-- What is left of `n` bits above the lowest `k`. -/
theorem shiftRight_lt_of_lt {v n k : Nat} (h : v < 2 ^ n) (hk : k ≤ n) : v >>> k < 2 ^ (n - k) := by
  rw [Nat.shiftRight_eq_div_pow, Nat.div_lt_iff_lt_mul (Nat.two_pow_pos k), ← Nat.pow_add, Nat.sub_add_cancel hk]
  exact h

/-- The second copy in `rep8` lies below the first (40_bitfield_extractor R110). -/
theorem rep8_copy_lt {v n : Nat} (h4 : 4 ≤ n) (h8 : n ≤ 8) (h : v < 2 ^ n) : v >>> (2 * n - 8) < 2 ^ (8 - n) := by
  have hwidth : n - (2 * n - 8) = 8 - n := by omega
  exact hwidth ▸ shiftRight_lt_of_lt h (by omega)

/-- `rep8` is the sum of its two copies: nothing is cut off (40_bitfield_extractor R110). -/
theorem rep8_eq_add {v n : Nat} (h4 : 4 ≤ n) (h8 : n ≤ 8) (h : v < 2 ^ n) :
    rep8 v n = v * 2 ^ (8 - n) + v / 2 ^ (2 * n - 8) := by
  have hlow := rep8_copy_lt h4 h8 h
  have hhigh : (v + 1) * 2 ^ (8 - n) ≤ 256 := by
    calc (v + 1) * 2 ^ (8 - n) ≤ 2 ^ n * 2 ^ (8 - n) := Nat.mul_le_mul_right _ h
      _ = 256 := by rw [← Nat.pow_add, Nat.add_sub_cancel' h8]
  have hpow : 2 ^ n = 2 ^ (2 * n - 8) * 2 ^ (8 - n) := by
    rw [← Nat.pow_add]
    congr 1
    omega
  have hcopy : v * 2 ^ (8 - n) / 2 ^ n = v / 2 ^ (2 * n - 8) := by
    rw [hpow, Nat.mul_div_mul_right _ _ (Nat.two_pow_pos _)]
  rw [Nat.shiftRight_eq_div_pow] at hlow
  rw [Nat.succ_mul] at hhigh
  rw [rep8, hcopy, Nat.mod_eq_of_lt (by omega)]

theorem rep8_eq_or {v n : Nat} (h4 : 4 ≤ n) (h8 : n ≤ 8) (h : v < 2 ^ n) :
    rep8 v n = v <<< (8 - n) ||| v >>> (2 * n - 8) := by
  rw [← Nat.shiftLeft_add_eq_or_of_lt (rep8_copy_lt h4 h8 h), Nat.shiftLeft_eq, Nat.shiftRight_eq_div_pow,
    rep8_eq_add h4 h8 h]

theorem rep8_four {v : Nat} (h : v < 16) : rep8 v 4 = ext4 v := by rw [rep8, ext4]; omega
theorem rep8_five {v : Nat} (h : v < 32) : rep8 v 5 = ext5 v := rep8_eq_add (by decide) (by decide) h
theorem rep8_six {v : Nat} (h : v < 64) : rep8 v 6 = ext6 v := rep8_eq_add (by decide) (by decide) h
theorem rep8_seven {v : Nat} (h : v < 128) : rep8 v 7 = ext7 v := rep8_eq_add (by decide) (by decide) h
theorem rep8_eight {v : Nat} (h : v < 256) : rep8 v 8 = v := by rw [rep8]; omega

/-- Settles O22: the two copies add without a carry, so their sum is their OR. -/
theorem bitReplication : Obligations.BitReplication := by
  refine ⟨fun _ => rep8_four, fun _ => rep8_five, fun _ => rep8_six, fun _ => rep8_seven, fun _ => rep8_eight,
    fun n hn v h => ?_⟩
  have hwidth : ∀ n ∈ [4, 5, 6, 7, 8], 4 ≤ n ∧ n ≤ 8 := by decide
  obtain ⟨h4, h8⟩ := hwidth n hn
  exact ⟨rep8_eq_or h4 h8 h, shiftLeft_and_of_lt (rep8_copy_lt h4 h8 h) v, Nat.lt_succ_of_le (rep8_le v n)⟩

/-! The 11-bit widenings -/

/-- The low copy has five bits, the shifted one none below them (40_bitfield_extractor R111). -/
theorem ext11u_eq_or {v : Nat} (h : v < 2048) : ext11u v = v <<< 5 ||| v >>> 6 := by
  have hlow : v >>> 6 < 2 ^ 5 := shiftRight_lt_of_lt (n := 11) h (by decide)
  rw [← Nat.shiftLeft_add_eq_or_of_lt hlow, Nat.shiftLeft_eq, Nat.shiftRight_eq_div_pow, ext11u]

theorem ext11u_lt {v : Nat} (h : v < 2048) : ext11u v < 65536 := by
  rw [ext11u]
  omega

theorem ext11s_of_nonneg {v : Int} (h : 0 ≤ v) : ext11s v = ext11u v.toNat := if_pos h

/-- The signed widening is mirrored at zero (40_bitfield_extractor R112). -/
theorem ext11s_neg (v : Int) : ext11s (-v) = -ext11s v := by
  obtain hneg | rfl | hpos := lt_trichotomy v 0
  · rw [ext11s_of_nonneg (by omega), ext11s, if_neg (by omega), neg_neg]
  · rfl
  · rw [ext11s_of_nonneg hpos.le, ext11s, if_neg (by omega), neg_neg]

theorem ext11s_bounds {v : Int} (h : -1023 ≤ v) (h' : v ≤ 1023) : -32751 ≤ ext11s v ∧ ext11s v ≤ 32751 := by
  rw [ext11s, ext11u, ext11u]
  split <;> omega

/-- A lane holds an integer modulo `2^16` (10_state R26). -/
theorem laneZ_toNat_emod (v : Int) : ((laneZ v).toNat : Int) = v % 65536 := by
  rw [laneZ, BitVec.toNat_ofInt]
  omega

/-- Settles O23. -/
theorem elevenBitWidening : Obligations.ElevenBitWidening :=
  ⟨fun _ h => ⟨ext11u_eq_or h, ext11u_lt h⟩, fun v h h' =>
    ⟨ext11s_neg v, (ext11s_bounds h h').1, (ext11s_bounds h h').2, ext11s_of_nonneg, laneZ_toNat_emod _⟩⟩

end Sys2Proof.Proofs
end

section
/-! PROOFS. The values that the ETC, EAC and BC7 rules compute before they clamp or shift (40_bitfield_extractor R115): how wide
the adders must be. -/

namespace Sys2Proof.Proofs

open Sys2Proof Sys2Proof.Machine Sys2Proof.Laws

/-! Tables -/

/-- A table look-up answers an entry or the default. -/
theorem vector_getD_of_forall_mem {α : Type} {k : Nat} {q : α → Prop} {v : Vector α k} {d : α} (h : ∀ x ∈ v, q x) (hd : q d)
    (i : Nat) : q (v.getD i d) := by
  unfold Vector.getD Array.getD
  split
  · next hi => exact h _ (Vector.getElem_mem (hi.trans_eq v.size_toArray))
  · exact hd

/-! ETC (41_etc1_etc2) -/

theorem etcOverflowBase_le (P : Config.Params) (c : Word64) (ch : Channel) : etcOverflowBase P c ch ≤ 255 := by
  unfold etcOverflowBase
  split
  · exact Nat.le_of_lt_succ (Config.draw8 c ch).isLt
  · omega
  · exact ext5_le (by omega)

theorem etcBase5_lt (c : Word64) (ch : Channel) : etcBase5 c ch < 32 := by
  cases ch with
  | r => exact bits_lt c 59 63 (by omega)
  | g => exact bits_lt c 51 55 (by omega)
  | b => exact bits_lt c 43 47 (by omega)

theorem etcIndBase_le (c : Word64) (sb : Nat) (ch : Channel) : etcIndBase c sb ch ≤ 255 := by
  have hfield : ∀ first second : Nat, first < 16 → second < 16 → ext4 (if sb = 0 then first else second) ≤ 255 := by
    intro first second h1 h2
    exact ext4_le (by split <;> assumption)
  cases ch with
  | r => exact hfield _ _ (bits_lt c 60 63 (by omega)) (bits_lt c 56 59 (by omega))
  | g => exact hfield _ _ (bits_lt c 52 55 (by omega)) (bits_lt c 48 51 (by omega))
  | b => exact hfield _ _ (bits_lt c 44 47 (by omega)) (bits_lt c 40 43 (by omega))

theorem etcDiffBase_le (P : Config.Params) (c : Word64) (sb : Nat) (ch : Channel) : etcDiffBase P c sb ch ≤ 255 := by
  unfold etcDiffBase
  split
  · exact ext5_le (etcBase5_lt c ch)
  · split
    · next hr =>
      simp only [inRange5, Bool.and_eq_true, decide_eq_true_eq] at hr
      exact ext5_le (by omega)
    · exact etcOverflowBase_le P c ch

/-- A base colour is a byte, whatever an overflowing sum gives (41_etc1_etc2 R125 to R127). -/
theorem etcBase_le (P : Config.Params) (c : Word64) (mode : EtcMode) (sb : Nat) (ch : Channel) : etcBase P c mode sb ch ≤ 255 := by
  unfold etcBase
  split
  · exact etcIndBase_le c sb ch
  · exact etcDiffBase_le P c sb ch

theorem etcModifier_bounds (c : Word64) (sb i : Nat) :
    -183 ≤ etcModifier Config.Tables.printed c sb i ∧ etcModifier Config.Tables.printed c sb i ≤ 183 := by
  have hrows : ∀ row ∈ Config.tabEtcMod, ∀ x ∈ row, -183 ≤ x ∧ x ≤ 183 := by decide
  have hrow := vector_getD_of_forall_mem (d := Vector.replicate 4 0) hrows (by decide) (etcTable c sb)
  exact vector_getD_of_forall_mem (q := fun x => -183 ≤ x ∧ x ≤ 183) hrow (by decide) i

theorem planarO_le (c : Word64) (ch : Channel) : planarO c ch ≤ 255 := by
  cases ch with
  | r => exact ext6_le (bits_lt c 57 62 (by omega))
  | g =>
    have h1 : bit c 56 < 2 := bit_lt c 56 (by omega)
    have h2 : bits c 49 54 < 64 := bits_lt c 49 54 (by omega)
    exact ext7_le (by omega)
  | b =>
    have h1 : bit c 48 < 2 := bit_lt c 48 (by omega)
    have h2 : bits c 43 44 < 4 := bits_lt c 43 44 (by omega)
    have h3 : bits c 39 41 < 8 := bits_lt c 39 41 (by omega)
    exact ext6_le (by omega)

theorem planarH_le (c : Word64) (ch : Channel) : planarH c ch ≤ 255 := by
  cases ch with
  | r =>
    have h1 : bits c 34 38 < 32 := bits_lt c 34 38 (by omega)
    have h2 : bit c 32 < 2 := bit_lt c 32 (by omega)
    exact ext6_le (by omega)
  | g => exact ext7_le (bits_lt c 25 31 (by omega))
  | b => exact ext6_le (bits_lt c 19 24 (by omega))

theorem planarV_le (c : Word64) (ch : Channel) : planarV c ch ≤ 255 := by
  cases ch with
  | r => exact ext6_le (bits_lt c 13 18 (by omega))
  | g => exact ext7_le (bits_lt c 6 12 (by omega))
  | b => exact ext6_le (bits_lt c 0 5 (by omega))

/-- The numerator of a planar channel (41_etc1_etc2 R133): at each pixel (`x`, `y`) it is linear in the three colours; both
extremes are at (3,3), where `o` weighs -2 and `h` and `v` weigh 3. -/
theorem planarNumerator_bounds {o h v : Nat} (ho : o ≤ 255) (hh : h ≤ 255) (hv : v ≤ 255) {x y : Nat} (hx : x < 4) (hy : y < 4) :
    (x : Int) * ((h : Int) - o) + y * ((v : Int) - o) + 4 * o + 2 ≤ 1532 ∧
      -508 ≤ (x : Int) * ((h : Int) - o) + y * ((v : Int) - o) + 4 * o + 2 := by
  interval_cases x <;> interval_cases y <;> omega

/-! EAC (42_eac) -/

theorem eacModifier_bounds (e : Word64) (q : Fin 16) :
    -15 ≤ eacModifier Config.Tables.printed e q ∧ eacModifier Config.Tables.printed e q ≤ 14 := by
  have hrows : ∀ row ∈ Config.tabEacMod, ∀ x ∈ row, -15 ≤ x ∧ x ≤ 14 := by decide
  have hrow := vector_getD_of_forall_mem (d := Vector.replicate 8 0) hrows (by decide) (eacTab e)
  exact vector_getD_of_forall_mem (q := fun x => -15 ≤ x ∧ x ≤ 14) hrow (by decide) (eacIndex e q)

/-- The modifier times the multiplier, which has four bits (42_eac R160). -/
theorem eacProduct_bounds (e : Word64) (q : Fin 16) :
    -225 ≤ eacMul e * eacModifier Config.Tables.printed e q ∧ eacMul e * eacModifier Config.Tables.printed e q ≤ 210 := by
  obtain ⟨hmin, hmax⟩ := eacModifier_bounds e q
  have hmul : eacMul e < 16 := bits_lt e 52 55 (by omega)
  have h1 := Int.mul_le_mul_of_nonneg_left hmin (Int.natCast_nonneg (eacMul e))
  have h2 := Int.mul_le_mul_of_nonneg_left hmax (Int.natCast_nonneg (eacMul e))
  omega

theorem eacBase_le (e : Word64) : eacBase e ≤ 255 := Nat.le_of_lt_succ (bits_lt e 56 63 (by omega))

/-- The signed base codeword is never -128 (42_eac R165). -/
theorem eacSignedBase_bounds (e : Word64) : -127 ≤ eacSignedBase e ∧ eacSignedBase e ≤ 127 := by
  have hsext : -128 ≤ sext 8 (eacBase e) ∧ sext 8 (eacBase e) < 128 := sext_bounds (by decide) (eacBase e)
  rw [eacSignedBase]
  split <;> omega

/-! BC7 (47_bc7) -/

/-- What `interp` shifts, for byte endpoints (45_shared_tables R236): a weighted sum of weight 64, plus the rounding. -/
theorem interpOperand_bounds {a b w : Nat} (ha : a ≤ 255) (hb : b ≤ 255) (hw : w ≤ 64) :
    32 ≤ (a : Int) * (64 - w) + b * w + 32 ∧ (a : Int) * (64 - w) + b * w + 32 ≤ 16352 := by
  have h1 : 0 ≤ (a : Int) * (64 - w) := mul_nonneg (by omega) (by omega)
  have h2 : 0 ≤ (b : Int) * w := by positivity
  have h3 : (a : Int) * (64 - w) ≤ 255 * (64 - w) := Int.mul_le_mul_of_nonneg_right (by omega) (by omega)
  have h4 : (b : Int) * w ≤ 255 * w := Int.mul_le_mul_of_nonneg_right (by omega) (by omega)
  omega

/-- Settles O54, family by family. -/
theorem intermediateValuesStayInRange : Obligations.IntermediateValuesStayInRange := by
  refine ⟨fun P c mode sb i ch => ?_, fun c ch x hx y hy => ?_, fun e q => ?_, fun b m c e v hv => ?_,
    fun a b w => interpOperand_bounds⟩
  · have hbase := etcBase_le P c mode sb ch
    have hmod := etcModifier_bounds c sb i
    omega
  · intro n
    have hn : n ≤ 1532 ∧ -508 ≤ n := planarNumerator_bounds (planarO_le c ch) (planarH_le c ch) (planarV_le c ch) hx hy
    rw [shr]
    omega
  · have hbase := eacBase_le e
    have hsigned := eacSignedBase_bounds e
    have hprod := eacProduct_bounds e q
    omega
  · have hbytes := bc7Endpoint_isBytes hv
    exact ⟨hbytes.r, hbytes.g, hbytes.b, hbytes.a⟩

end Sys2Proof.Proofs
end

section
/-! PROOFS. The fields of a big-endian word, read from the bytes of the block (30_encoding R71 to R74): what the ETC and EAC
rules take from `W0` and `W1` is what Claims reads at byte 0 and at byte 8. -/

namespace Sys2Proof.Proofs

open Sys2Proof Sys2Proof.Machine Sys2Proof.Claims Sys2Proof.Laws

/-- `c` is the big-endian word at byte `o` of the block, byte by byte (10_state R23). -/
structure WordAt (d : Block) (o : Nat) (c : Word64) : Prop where
  byte0 : c.toNat / 2 ^ 56 = byte d o
  byte1 : c.toNat / 2 ^ 48 % 2 ^ 8 = byte d (o + 1)
  byte2 : c.toNat / 2 ^ 40 % 2 ^ 8 = byte d (o + 2)
  byte3 : c.toNat / 2 ^ 32 % 2 ^ 8 = byte d (o + 3)
  byte4 : c.toNat / 2 ^ 24 % 2 ^ 8 = byte d (o + 4)
  byte5 : c.toNat / 2 ^ 16 % 2 ^ 8 = byte d (o + 5)
  byte6 : c.toNat / 2 ^ 8 % 2 ^ 8 = byte d (o + 6)
  byte7 : c.toNat % 2 ^ 8 = byte d (o + 7)

theorem byte_eq_getElem (d : Block) {i : Nat} (h : i < 16) : byte d i = d[i].toNat := dif_pos h

theorem byte_lt (d : Block) (i : Nat) : byte d i < 256 := by
  unfold byte
  split
  · exact BitVec.isLt _
  · decide

/-- A word assembled from the bytes at `o` is the word at `o`. -/
theorem wordAt_of_toNat {d : Block} {o : Nat} {c : Word64}
    (h : c.toNat = byte d (o + 7) + byte d (o + 6) * 2 ^ 8 + byte d (o + 5) * 2 ^ 16 + byte d (o + 4) * 2 ^ 24
      + byte d (o + 3) * 2 ^ 32 + byte d (o + 2) * 2 ^ 40 + byte d (o + 1) * 2 ^ 48 + byte d o * 2 ^ 56) :
    WordAt d o c := by
  have h1 := byte_lt d (o + 1); have h2 := byte_lt d (o + 2); have h3 := byte_lt d (o + 3)
  have h4 := byte_lt d (o + 4); have h5 := byte_lt d (o + 5); have h6 := byte_lt d (o + 6); have h7 := byte_lt d (o + 7)
  constructor <;> omega

theorem wordAt_w0 (d : Block) : WordAt d 0 (w0 d) := wordAt_of_toNat (be64_toNat ..)

theorem wordAt_w1 (d : Block) : WordAt d 8 (w1 d) := wordAt_of_toNat (be64_toNat ..)

/-- The coded index of a pixel is its column-major number (00_scope R13). -/
theorem columnMajor_val (p : Fin 16) : (columnMajor p).val = colMajor p := rfl

theorem colMajor_lt (p : Fin 16) : colMajor p < 16 := (columnMajor p).isLt

section
variable {d : Block} {o : Nat} {c : Word64}

/-! ETC: mode, sub-block and index -/

theorem diffBit_eq (hc : WordAt d o c) : bit c 33 = etcDiffBit d o := by
  have h3 := hc.byte3
  simp only [bit, etcDiffBit]
  omega

/-- The flip bit of the `IND` and `DIFF` modes, and the low bit of a distance or of a colour in the others. -/
theorem bit32_eq (hc : WordAt d o c) : bit c 32 = byte d (o + 3) % 2 := by
  have h3 := hc.byte3
  simp only [bit]
  omega

theorem etcBase5_eq (hc : WordAt d o c) (ch : Channel) : etcBase5 c ch = etcByte d o ch / 8 := by
  have h0 := hc.byte0; have h1 := hc.byte1; have h2 := hc.byte2
  cases ch
  all_goals
    simp only [etcBase5, etcByte, bits, slice]
    omega

/-- A 3-bit field as two's complement (41_etc1_etc2 R121). -/
theorem sext3_of_lt {v : Nat} (h : v < 8) : sext 3 v = if v < 4 then (v : Int) else v - 8 := by
  unfold sext
  split <;> split <;> omega

theorem etcDelta_eq (hc : WordAt d o c) (ch : Channel) : etcDelta c ch = sext 3 (etcByte d o ch % 8) := by
  have h0 := hc.byte0; have h1 := hc.byte1; have h2 := hc.byte2
  cases ch
  all_goals
    simp only [etcDelta, etcByte, bits, slice]
    congr 1
    omega

theorem etcSum_eq (hc : WordAt d o c) (ch : Channel) : etcSum c ch = etcSumOf d o ch := by
  rw [etcSum, etcBase5_eq hc, etcDelta_eq hc, sext3_of_lt (Nat.mod_lt _ (by decide))]
  rfl

theorem etcSubblock_eq (hc : WordAt d o c) (p : Fin 16) : etcSubblock c p = (etcSecond d o p).toNat := by
  have h2 : byte d (o + 3) % 2 < 2 := Nat.mod_lt _ (by decide)
  rw [etcSubblock, etcSecond, bit32_eq hc]
  by_cases h : byte d (o + 3) % 2 = 0
  · by_cases hp : 2 ≤ p.val % 4 <;> simp [h, hp]
  · have h1 : byte d (o + 3) % 2 = 1 := by omega
    by_cases hp : 2 ≤ p.val / 4 <;> simp [h1, hp]

/-- A bit of a two-byte field, the field starting at bit `k` of the word. -/
theorem bit_of_twoBytes {k q v : Nat} (hk : k + q ≤ 63) (hq : q < 16) (hv : c.toNat / 2 ^ k % 2 ^ 16 = v) :
    bit c (k + q) = v / 2 ^ q % 2 := by
  rw [bit, Nat.pow_add, ← Nat.div_div_eq_div_mul, ← hv]
  exact (field_mod_two_pow (w := 1) _ (by omega)).symm

theorem etcIndex_eq (hc : WordAt d o c) (p : Fin 16) : etcIndex c (columnMajor p) = etcIdx d o p := by
  have h4 := hc.byte4; have h5 := hc.byte5; have h6 := hc.byte6; have h7 := hc.byte7
  have hq := colMajor_lt p
  have hhigh : bit c (16 + colMajor p) = (256 * byte d (o + 4) + byte d (o + 5)) / 2 ^ colMajor p % 2 :=
    bit_of_twoBytes (by omega) hq (by omega)
  have hlow : bit c (0 + colMajor p) = (256 * byte d (o + 6) + byte d (o + 7)) / 2 ^ colMajor p % 2 :=
    bit_of_twoBytes (by omega) hq (by omega)
  simp only [Nat.zero_add] at hlow
  simp only [etcIndex, columnMajor_val, hhigh, hlow, etcIdx]

theorem etcIdx_lt (d : Block) (o : Nat) (p : Fin 16) : etcIdx d o p < 4 := by
  unfold etcIdx
  omega

/-- A choice by the number of the sub-block is a choice by whether it is the second. -/
theorem ite_toNat_eq_zero {α : Type} (second : Bool) (x y : α) :
    (if second.toNat = 0 then x else y) = if second then y else x := by
  cases second <;> rfl

theorem etcTable_eq (hc : WordAt d o c) (second : Bool) :
    etcTable c second.toNat = if second then byte d (o + 3) / 4 % 8 else byte d (o + 3) / 32 := by
  have h3 := hc.byte3
  simp only [etcTable, ite_toNat_eq_zero, bits, slice]
  split <;> omega

/-- The modifier of pixel `p` (41_etc1_etc2 R124). -/
theorem etcModifier_eq (hc : WordAt d o c) (T : Config.Tables) (p : Fin 16) :
    etcModifier T c (etcSubblock c p) (etcIndex c (columnMajor p)) = etcMod T d o p := by
  rw [etcModifier, etcSubblock_eq hc, etcTable_eq hc, etcIndex_eq hc, etcMod]

/-! ETC: base colours -/

theorem etcIndBase_eq (hc : WordAt d o c) (second : Bool) (ch : Channel) :
    etcIndBase c second.toNat ch = indBase d o second ch := by
  have h0 := hc.byte0; have h1 := hc.byte1; have h2 := hc.byte2
  cases ch
  all_goals
    simp only [etcIndBase, indBase, etcByte, ext4, ite_toNat_eq_zero, bits, slice]
    split <;> omega

theorem inRange5_iff (s : Int) : inRange5 s = true ↔ 0 ≤ s ∧ s ≤ 31 := by simp [inRange5]

theorem etcDiffBase_eq (hc : WordAt d o c) (P : Config.Params) (second : Bool) (ch : Channel) :
    etcDiffBase P c second.toNat ch = diffBase (etcOverflowBase P c) d o second ch := by
  simp only [etcDiffBase, diffBase, ite_toNat_eq_zero, inRange5_iff, etcBase5_eq hc, etcSum_eq hc]

theorem tColour0_eq (hc : WordAt d o c) (ch : Channel) : tColour0 c ch = tBase d o false ch := by
  have h0 := hc.byte0; have h1 := hc.byte1
  cases ch
  all_goals
    simp only [tColour0, tBase, ext4, bits, slice, Bool.false_eq_true, if_false]
    omega

theorem tColour1_eq (hc : WordAt d o c) (ch : Channel) : tColour1 c ch = tBase d o true ch := by
  have h2 := hc.byte2; have h3 := hc.byte3
  cases ch
  all_goals
    simp only [tColour1, tBase, ext4, bits, slice, if_true]
    omega

theorem hColour0_eq (hc : WordAt d o c) (ch : Channel) : hColour0 c ch = hBase d o false ch := by
  have h0 := hc.byte0; have h1 := hc.byte1; have h2 := hc.byte2
  cases ch
  all_goals
    simp only [hColour0, hBase, ext4, bit, bits, slice, Bool.false_eq_true, if_false]
    omega

theorem hColour1_eq (hc : WordAt d o c) (ch : Channel) : hColour1 c ch = hBase d o true ch := by
  have h2 := hc.byte2; have h3 := hc.byte3
  cases ch
  all_goals
    simp only [hColour1, hBase, ext4, bits, slice, if_true]
    omega

theorem planarO_eq (hc : WordAt d o c) (ch : Channel) : planarO c ch = planarCorner d o 0 ch := by
  have h0 := hc.byte0; have h1 := hc.byte1; have h2 := hc.byte2; have h3 := hc.byte3
  cases ch
  all_goals
    simp only [planarO, planarCorner, bit, bits, slice]
    congr 1
    omega

theorem planarH_eq (hc : WordAt d o c) (ch : Channel) : planarH c ch = planarCorner d o 1 ch := by
  have h3 := hc.byte3; have h4 := hc.byte4; have h5 := hc.byte5
  cases ch
  all_goals
    simp only [planarH, planarCorner, bit, bits, slice]
    congr 1
    omega

theorem planarV_eq (hc : WordAt d o c) (ch : Channel) : planarV c ch = planarCorner d o 2 ch := by
  have h5 := hc.byte5; have h6 := hc.byte6; have h7 := hc.byte7
  cases ch
  all_goals
    simp only [planarV, planarCorner, bits, slice]
    congr 1
    omega

/-! EAC (42_eac R160 to R162) -/

theorem eacBase_eq (hc : WordAt d o c) : eacBase c = byte d o := by
  have h0 := hc.byte0
  simp only [eacBase, bits, slice]
  omega

theorem eacMul_eq (hc : WordAt d o c) : eacMul c = eacMulOf d o := by
  have h1 := hc.byte1
  simp only [eacMul, eacMulOf, bits, slice]
  omega

theorem eacTab_eq (hc : WordAt d o c) : eacTab c = byte d (o + 1) % 16 := by
  have h1 := hc.byte1
  simp only [eacTab, bits, slice]
  omega

/-- The six index bytes are the low 48 bits of the word (30_encoding R74). -/
theorem toNat_mod_eq_be48 (hc : WordAt d o c) : c.toNat % 2 ^ 48 = be48 d o := by
  have h2 := hc.byte2; have h3 := hc.byte3; have h4 := hc.byte4; have h5 := hc.byte5; have h6 := hc.byte6
  have h7 := hc.byte7
  rw [be48]
  omega

theorem eacIndex_eq (hc : WordAt d o c) (p : Fin 16) : eacIndex c (columnMajor p) = eacIdx d o p := by
  have hq := colMajor_lt p
  have hstart : 45 - 3 * colMajor p = 3 * (15 - colMajor p) := by omega
  have hwidth : 47 - 3 * colMajor p - 3 * (15 - colMajor p) + 1 = 3 := by omega
  rw [eacIndex, bits, slice, columnMajor_val, hstart, hwidth, eacIdx, ← toNat_mod_eq_be48 hc,
    ← field_mod_two_pow _ (by omega : 3 * (15 - colMajor p) + 3 ≤ 48), Nat.pow_mul]
  rfl

theorem eacModifier_eq (hc : WordAt d o c) (T : Config.Tables) (p : Fin 16) :
    eacModifier T c (columnMajor p) = eacMod T d o p := by
  rw [eacModifier, eacTab_eq hc, eacIndex_eq hc, eacMod]

/-- The 8-bit value of pixel `p` (42_eac R163). -/
theorem eac8_eq (hc : WordAt d o c) (T : Config.Tables) (p : Fin 16) : eac8 T c p = eac8Of T d o p := by
  rw [eac8, eac8Value, eacBase_eq hc, eacMul_eq hc, eacModifier_eq hc, eac8Of]

end

end Sys2Proof.Proofs
end

section
/-! PROOFS. ETC1 and ETC2 (41_etc1_etc2): a pixel of each kind from the bytes of the block, the seven requests, and how the kinds
compare. -/

namespace Sys2Proof.Proofs

open Sys2Proof Sys2Proof.Machine Sys2Proof.Claims Sys2Proof.Laws

section
variable {d : Block} {o : Nat} {c : Word64}

/-! Paint colours and planar colours -/

theorem tDist_eq (hc : WordAt d o c) (T : Config.Tables) :
    tDist T c = etcDist T (2 * (byte d (o + 3) / 4 % 4) + byte d (o + 3) % 2) := by
  have h34 : bits c 34 35 = byte d (o + 3) / 4 % 4 := by
    have h3 := hc.byte3
    simp only [bits, slice]
    omega
  rw [tDist, h34, bit32_eq hc]

theorem tPaint_eq (hc : WordAt d o c) (T : Config.Tables) (i : Nat) (ch : Channel) :
    tPaint T c i ch = tPaintOf T d o i ch := by
  have h0 := tColour0_eq hc ch
  have h1 := tColour1_eq hc ch
  have hdist := tDist_eq hc T
  match i with
  | 0 | 1 | 2 | _ + 3 => simp [tPaint, tPaintOf, h0, h1, hdist]

theorem hFirstLarger_iff (hc : WordAt d o c) :
    value24 (hColour0 c) ≥ value24 (hColour1 c) ↔ hFirstLarger d o = true := by
  simp only [value24, hColour0_eq hc, hColour1_eq hc, hFirstLarger, decide_eq_true_eq]
  omega

theorem hDist_eq (hc : WordAt d o c) (T : Config.Tables) :
    hDist T c = etcDist T (4 * (byte d (o + 3) / 4 % 2) + 2 * (byte d (o + 3) % 2) + if hFirstLarger d o then 1 else 0) := by
  have h34 : bit c 34 = byte d (o + 3) / 4 % 2 := by
    have h3 := hc.byte3
    simp only [bit]
    omega
  simp only [hDist, h34, bit32_eq hc, hFirstLarger_iff hc]

theorem hPaint_eq (hc : WordAt d o c) (T : Config.Tables) {i : Nat} (hi : i < 4) (ch : Channel) :
    hPaint T c i ch = hPaintOf T d o i ch := by
  have h0 := hColour0_eq hc ch
  have h1 := hColour1_eq hc ch
  have hdist := hDist_eq hc T
  match i with
  | 0 | 1 | 2 | 3 => simp [hPaint, hPaintOf, h0, h1, hdist, Int.sub_eq_add_neg]

/-- The two forms of the planar numerator (40_bitfield_extractor R115). -/
theorem planar_eq (hc : WordAt d o c) (p : Fin 16) (ch : Channel) : planar c p ch = planarOf d o p ch := by
  have hform : ∀ x y O H V : Int, x * (H - O) + y * (V - O) + 4 * O + 2 = x * H + y * V + (4 - x - y) * O + 2 := by
    intro x y O H V
    ring
  rw [planar, planarOf, planarO_eq hc, planarH_eq hc, planarV_eq hc, hform, shr, Int.fdiv_eq_ediv_of_nonneg _ (by decide)]
  rfl

/-! Modes -/

theorem not_inRange5_iff (s : Int) : ¬ inRange5 s = true ↔ s < 0 ∨ 31 < s := by
  rw [inRange5_iff]
  omega

theorem etcMode_etc1 (hc : WordAt d o c) : etcMode c .etc1 = if etcDiffBit d o = 0 then .ind else .diff := by
  rw [etcMode, if_pos rfl, diffBit_eq hc]

/-- The punch-through kind has no individual mode: its bit 33 is the opaque bit (41_etc1_etc2 R134). -/
theorem etcMode_punch (hc : WordAt d o c) : etcMode c .punch = sumMode d o := by
  simp only [etcMode, reduceCtorEq, false_and, if_false, not_inRange5_iff, etcSum_eq hc, sumMode]

theorem etcMode_etc2 (hc : WordAt d o c) : etcMode c .etc2 = if etcDiffBit d o = 0 then .ind else sumMode d o := by
  simp only [etcMode, reduceCtorEq, true_and, if_false, not_inRange5_iff, etcSum_eq hc, diffBit_eq hc, sumMode]

/-- The sums never select the individual mode. -/
theorem sumMode_ne_ind (d : Block) (o : Nat) : sumMode d o ≠ .ind := by
  unfold sumMode
  repeat' split
  all_goals decide

/-- The sums select the differential mode exactly when all are in range (41_etc1_etc2 R122). -/
theorem sumMode_eq_diff_iff (d : Block) (o : Nat) : sumMode d o = .diff ↔ ∀ ch, SumOk d o ch := by
  have hall : (∀ ch, SumOk d o ch) ↔ SumOk d o .r ∧ SumOk d o .g ∧ SumOk d o .b :=
    ⟨fun h => ⟨h .r, h .g, h .b⟩, fun ⟨hr, hg, hb⟩ ch => by cases ch <;> assumption⟩
  rw [hall]
  unfold sumMode SumOk
  repeat' split
  all_goals simp only [reduceCtorEq, false_iff, true_iff]; omega

/-- A channel in range, or in the first sub-block, does not ask what an overflow gives (41_etc1_etc2 R127). -/
theorem diffBase_of_sumOk {second : Bool} {ch : Channel} (h : second = false ∨ SumOk d o ch) (ovf ovf' : Channel → Nat) :
    diffBase ovf d o second ch = diffBase ovf' d o second ch := by
  obtain rfl | hs := h
  · rfl
  · have hs : 0 ≤ etcSumOf d o ch ∧ etcSumOf d o ch ≤ 31 := hs
    simp only [diffBase, hs, and_self, if_true]

/-! Pixels -/

/-- A channel of a pixel that is not transparent, by the mode (41_etc1_etc2 R128, R130, R131, R133). -/
def modeChannel (P : Config.Params) (c : Word64) (kind : EtcKind) (p : Fin 16) (ch : Channel) : EtcMode → Nat
  | .planar => planar c p ch
  | .t => tPaint P.tables c (etcIndex c (columnMajor p)) ch
  | .h => hPaint P.tables c (etcIndex c (columnMajor p)) ch
  | mode => etcPixel P c kind mode (etcSubblock c p) (etcIndex c (columnMajor p)) ch

/-- A pixel is transparent black, or it has its mode's channels and alpha 255. -/
theorem etcColour_eq (P : Config.Params) (c : Word64) (kind : EtcKind) (p : Fin 16) :
    etcColour P c kind p =
      if punchAt c kind (etcIndex c (columnMajor p)) 2 = true ∧ etcMode c kind ≠ .planar then ⟨0, 0, 0, 0⟩
      else rgba (modeChannel P c kind p · (etcMode c kind)) 255 := by
  unfold etcColour
  cases etcMode c kind <;> simp [modeChannel]

/-- Only a punch-through pixel is transparent. -/
theorem punchAt_of_ne {kind : EtcKind} (h : kind ≠ .punch) (c : Word64) (i k : Nat) : punchAt c kind i k = false := by
  simp [punchAt, h]

theorem punchAt_punch (hc : WordAt d o c) (p : Fin 16) (k : Nat) :
    punchAt c .punch (etcIndex c (columnMajor p)) k = true ↔ etcDiffBit d o = 0 ∧ etcIdx d o p = k := by
  simp [punchAt, diffBit_eq hc, etcIndex_eq hc]

/-- T, H and planar pixels are the same in every kind. -/
theorem modeChannel_paint (hc : WordAt d o c) (P : Config.Params) (kind : EtcKind) (p : Fin 16) (ch : Channel) :
    modeChannel P c kind p ch .t = tPaintOf P.tables d o (etcIdx d o p) ch ∧
    modeChannel P c kind p ch .h = hPaintOf P.tables d o (etcIdx d o p) ch ∧
    modeChannel P c kind p ch .planar = planarOf d o p ch := by
  refine ⟨?_, ?_, planar_eq hc p ch⟩
  · rw [modeChannel, tPaint_eq hc, etcIndex_eq hc]
  · rw [modeChannel, etcIndex_eq hc, hPaint_eq hc _ (etcIdx_lt d o p)]

theorem modeChannel_ind (hc : WordAt d o c) (P : Config.Params) {kind : EtcKind} (hk : kind ≠ .punch) (p : Fin 16) (ch : Channel) :
    modeChannel P c kind p ch .ind = clamp8 (indBase d o (etcSecond d o p) ch + etcMod P.tables d o p) := by
  simp only [modeChannel, etcPixel, etcBase, punchAt_of_ne hk, etcModifier_eq hc, if_true, reduceCtorEq, if_false]
  rw [etcSubblock_eq hc, etcIndBase_eq hc]

theorem modeChannel_diff (hc : WordAt d o c) (P : Config.Params) (kind : EtcKind) (p : Fin 16) (ch : Channel) :
    modeChannel P c kind p ch .diff = clamp8 (diffBase (etcOverflowBase P c) d o (etcSecond d o p) ch
      + if punchAt c kind (etcIndex c (columnMajor p)) 0 then 0 else etcMod P.tables d o p) := by
  simp only [modeChannel, etcPixel, etcBase, etcModifier_eq hc, reduceCtorEq, if_false]
  rw [etcSubblock_eq hc, etcDiffBase_eq hc]

/-- With the sum in range the base does not come from `P_ETC1_OVF` (41_etc1_etc2 R126). -/
theorem modeChannel_diff_of_sumOk (hc : WordAt d o c) (P : Config.Params) (kind : EtcKind) (p : Fin 16) {ch : Channel}
    (h : SumOk d o ch) :
    modeChannel P c kind p ch .diff = clamp8 (diffBase (fun _ => 0) d o (etcSecond d o p) ch
      + if punchAt c kind (etcIndex c (columnMajor p)) 0 then 0 else etcMod P.tables d o p) := by
  rw [modeChannel_diff hc, diffBase_of_sumOk (.inr h) (etcOverflowBase P c) (fun _ => 0)]

/-- An ETC2 pixel, its colour word at byte `o`. -/
theorem etcColour_etc2 (hc : WordAt d o c) (P : Config.Params) (p : Fin 16) :
    etcColour P c .etc2 p = rgba (etc2Channel P.tables d o p) 255 := by
  have hk : EtcKind.etc2 ≠ .punch := by decide
  have hch : ∀ ch, modeChannel P c .etc2 p ch (etcMode c .etc2) = etc2Channel P.tables d o p ch := by
    intro ch
    obtain ⟨ht, hh, hplanar⟩ := modeChannel_paint hc P .etc2 p ch
    rw [etcMode_etc2 hc, etc2Channel]
    split
    · exact modeChannel_ind hc P hk p ch
    · cases hm : sumMode d o with
      | ind => exact absurd hm (sumMode_ne_ind d o)
      | t => exact ht
      | h => exact hh
      | planar => exact hplanar
      | diff =>
        rw [modeChannel_diff_of_sumOk hc P _ p ((sumMode_eq_diff_iff d o).mp hm ch), punchAt_of_ne hk]
        rfl
  simp only [etcColour_eq, punchAt_of_ne hk, hch, Bool.false_eq_true, false_and, if_false]

end

/-- What an overflowing sum gives, read from the bytes (41_etc1_etc2 R127). -/
theorem etcOverflowBase_w0 (P : Config.Params) (d : Block) : etcOverflowBase P (w0 d) = etcOverflow P d := by
  funext ch
  rw [etcOverflowBase, etcOverflow]
  cases P.etc1Ovf with
  | draw => rfl
  | wrap8 => simp only [etcSum_eq (wordAt_w0 d), Nat.mul_comm 8]
  | wrap5 => simp only [etcSum_eq (wordAt_w0 d)]

/-- An ETC1 pixel. -/
theorem etcColour_etc1 (P : Config.Params) (d : Block) (p : Fin 16) :
    etcColour P (w0 d) .etc1 p = rgba (etc1Channel P.tables (etcOverflow P d) d p) 255 := by
  have hc := wordAt_w0 d
  have hk : EtcKind.etc1 ≠ .punch := by decide
  have hch : ∀ ch, modeChannel P (w0 d) .etc1 p ch (etcMode (w0 d) .etc1) = etc1Channel P.tables (etcOverflow P d) d p ch := by
    intro ch
    rw [etcMode_etc1 hc, etc1Channel]
    split
    · exact modeChannel_ind hc P hk p ch
    · rw [modeChannel_diff hc, punchAt_of_ne hk, etcOverflowBase_w0]
      rfl
  simp only [etcColour_eq, punchAt_of_ne hk, hch, Bool.false_eq_true, false_and, if_false]

/-- A punch-through pixel. -/
theorem etcColour_punch (P : Config.Params) (d : Block) (p : Fin 16) :
    etcColour P (w0 d) .punch p = if punchClear d p then ⟨0, 0, 0, 0⟩ else rgba (punchChannel P.tables d p) 255 := by
  have hc := wordAt_w0 d
  have hch : ∀ ch, modeChannel P (w0 d) .punch p ch (sumMode d 0) = punchChannel P.tables d p ch := by
    intro ch
    obtain ⟨ht, hh, hplanar⟩ := modeChannel_paint hc P .punch p ch
    rw [punchChannel]
    cases hm : sumMode d 0 with
    | ind => exact absurd hm (sumMode_ne_ind d 0)
    | t => exact ht
    | h => exact hh
    | planar => exact hplanar
    | diff =>
      have hok := (sumMode_eq_diff_iff d 0).mp hm ch
      simp only [modeChannel_diff_of_sumOk hc P _ p hok, punchAt_punch hc]
  simp only [etcColour_eq, punchAt_punch hc, etcMode_punch hc, hch, punchClear, decide_eq_true_eq, and_assoc]

/-! The requests -/

/-- Settles O24: the decoder's word is the first half of the block. -/
theorem etc1RequestFromItsBytes : Obligations.Etc1RequestFromItsBytes := by
  intro d s
  have hpx : etc1Rgb8Pixels s.params d
      = pixels fun p => rgbPixel (etc1Channel s.params.tables (etcOverflow s.params d) d p) 0 := by
    simp only [etc1Rgb8Pixels, etcColour_etc1]
    rfl
  exact hpx ▸ runDecode_eq 0 d (etc1Rgb8Pixels s.params) s

/-- Settles O25: both codes run one decoder, whose word is the first half of the block. -/
theorem etc2RequestsFromTheirBytes : Obligations.Etc2RequestsFromTheirBytes := by
  intro d s
  have hpx : etc2Rgb8Pixels s.params d = pixels fun p => rgbPixel (etc2Channel s.params.tables d 0 p) 0 := by
    simp only [etc2Rgb8Pixels, etcColour_etc2 (wordAt_w0 d)]
    rfl
  exact ⟨hpx ▸ runDecode_eq 5 d (etc2Rgb8Pixels s.params) s, hpx ▸ runDecode_eq 6 d (etc2Rgb8Pixels s.params) s⟩

/-- Settles O26: both codes run one decoder, a pixel of which is transparent or opaque. -/
theorem punchThroughRequestsFromTheirBytes : Obligations.PunchThroughRequestsFromTheirBytes := by
  intro d s
  have hpx : etc2Pta1Pixels s.params d
      = pixels fun p => if punchClear d p then ⟨0, 0, 0, 0⟩ else rgbPixel (punchChannel s.params.tables d p) 255 := by
    simp only [etc2Pta1Pixels, etcColour_punch, apply_ite Rgba.pixel]
    rfl
  exact ⟨hpx ▸ runDecode_eq 7 d (etc2Pta1Pixels s.params) s, hpx ▸ runDecode_eq 8 d (etc2Pta1Pixels s.params) s⟩

/-- Settles O27: both codes run one decoder, which takes its colour from the second half and its alpha from the first. -/
theorem etcEacRequestsFromTheirBytes : Obligations.EtcEacRequestsFromTheirBytes := by
  intro d s
  have hpx : etc2EacPixels s.params d
      = pixels fun p => rgbPixel (etc2Channel s.params.tables d 8 p) (eac8Of s.params.tables d 0 p) := by
    simp only [etc2EacPixels, etcColour_etc2 (wordAt_w1 d), eac8_eq (wordAt_w0 d)]
    rfl
  exact ⟨hpx ▸ runDecode_eq 9 d (etc2EacPixels s.params) s, hpx ▸ runDecode_eq 10 d (etc2EacPixels s.params) s⟩

/-! The kinds against each other -/

/-- In individual mode, or with all sums in range, ETC2 is ETC1 (41_etc1_etc2 R136). -/
theorem etc1Channel_eq_etc2Channel {d : Block} (h : etcDiffBit d 0 = 0 ∨ ∀ ch, SumOk d 0 ch) (T : Config.Tables)
    (ovf : Channel → Nat) (p : Fin 16) (ch : Channel) : etc1Channel T ovf d p ch = etc2Channel T d 0 p ch := by
  rw [etc1Channel, etc2Channel]
  split
  · rfl
  · next hdiff =>
    have hok := h.resolve_left hdiff
    rw [(sumMode_eq_diff_iff d 0).mpr hok, diffBase_of_sumOk (.inr (hok ch)) ovf (fun _ => 0)]

/-- Settles O28, channel by channel. -/
theorem etc2AgreesWithEtc1InRange : Obligations.Etc2AgreesWithEtc1InRange := by
  intro d s h
  refine ⟨_, _, etc1RequestFromItsBytes d s, (etc2RequestsFromTheirBytes d s).1, ?_⟩
  have hch := fun p => funext (etc1Channel_eq_etc2Channel h s.params.tables (etcOverflow s.params d) p)
  simp only [hch]

/-- With the opaque bit set a punch-through pixel has the ETC2 colour (41_etc1_etc2 R134). -/
theorem punchChannel_of_opaque {d : Block} (h : etcDiffBit d 0 = 1) (T : Config.Tables) (p : Fin 16) :
    punchChannel T d p = etc2Channel T d 0 p := by
  funext ch
  have hdiff : ¬ etcDiffBit d 0 = 0 := by omega
  rw [punchChannel, etc2Channel, if_neg hdiff]
  cases sumMode d 0 with
  | t | h | planar => rfl
  | ind | diff => simp only [hdiff, false_and, if_false]

theorem punchClear_iff (d : Block) (p : Fin 16) :
    punchClear d p = true ↔ etcDiffBit d 0 = 0 ∧ etcIdx d 0 p = 2 ∧ sumMode d 0 ≠ .planar := decide_eq_true_iff

/-- Settles O29: a pixel is clear or has alpha 255, and with the opaque bit set, or in planar mode, none is clear. -/
theorem punchThroughAgainstEtc2 : Obligations.PunchThroughAgainstEtc2 := by
  intro d s
  refine ⟨_, _, (punchThroughRequestsFromTheirBytes d s).1, (etc2RequestsFromTheirBytes d s).1, fun h p => ?_, fun p => ?_,
    fun h p => ?_⟩
  · have hclear : ¬ punchClear d p = true := fun hp => by
      have := ((punchClear_iff d p).mp hp).1
      omega
    rw [pixels_getElem, pixels_getElem, if_neg hclear, punchChannel_of_opaque h]
    rfl
  · rw [pixels_getElem]
    split
    · exact .inr rfl
    · exact .inl rfl
  · have hclear : ¬ punchClear d p = true := fun hp => ((punchClear_iff d p).mp hp).2.2 h
    rw [pixels_getElem, if_neg hclear]
    rfl

/-- An ETC1 channel does not ask what an overflow gives unless its own sum overflows, in the second sub-block of a differential
block (41_etc1_etc2 R127). -/
theorem etc1Channel_of_sumOk {d : Block} {p : Fin 16} {ch : Channel}
    (h : etcDiffBit d 0 = 0 ∨ etcSecond d 0 p = false ∨ SumOk d 0 ch) (T : Config.Tables) (ovf ovf' : Channel → Nat) :
    etc1Channel T ovf d p ch = etc1Channel T ovf' d p ch := by
  rw [etc1Channel, etc1Channel]
  split
  · rfl
  · next hdiff => rw [diffBase_of_sumOk (h.resolve_left hdiff) ovf ovf']

/-- Settles O30: the two responses differ in what an overflow gives, and in nothing else. -/
theorem etc1OverflowStaysInItsChannel : Obligations.Etc1OverflowStaysInItsChannel := by
  intro d s s' hT
  refine ⟨_, _, etc1RequestFromItsBytes d s, etc1RequestFromItsBytes d s', fun p => ?_⟩
  simp only [pixels_getElem, rgbPixel, ← hT]
  exact ⟨fun h => congrArg laneN (etc1Channel_of_sumOk h _ _ _), fun h => congrArg laneN (etc1Channel_of_sumOk h _ _ _),
    fun h => congrArg laneN (etc1Channel_of_sumOk h _ _ _)⟩

end Sys2Proof.Proofs
end

section
/-! PROOFS. The sRGB requests (41_etc1_etc2 R137, R139, R141; 43_bc1_bc2_bc3 R187, R189, R192, R196; 47_bc7 R308): each runs the
decoder of its linear twin. -/

namespace Sys2Proof.Proofs

open Sys2Proof Sys2Proof.Machine Sys2Proof.Claims Sys2Proof.Laws

/-- `j` is the request of the next code, also legal, on the same block, and `decodeFn` does not tell the codes apart. -/
structure Twins (i j : Instr) : Prop where
  code : j.code = i.code + 1
  legal : legalCode j.code = true
  block : j.block = i.block
  decodeFn : ∀ P d, decodeFn P j.code d = decodeFn P i.code d

/-- An instruction whose request `decodeFn` answers: the whole next state. -/
theorem exec_of_decodeFn {i : Instr} {s : State} {px : Pixels} (hl : legalCode i.code = true)
    (hpx : decodeFn s.params i.code i.block = some px) : Delivers i s px := by
  have h := exec_legal (r := i.request) hl hpx
  rwa [decodeRequest_request] at h

/-- Twins differ in `FMT` alone. -/
theorem exec_of_twins {i j : Instr} {s : State} (h : Twins i j) (hans : Answerable s i.code) :
    ∃ t, exec i s = .next t ∧ t.valid = true ∧ exec j s = .next { t with fmt := j.code } := by
  obtain ⟨px, hpx⟩ := decodeFn_of_answerable hans i.block
  have hpx' : decodeFn s.params j.code j.block = some px := by rw [h.block, h.decodeFn, hpx]
  have hj : exec j s = _ := exec_of_decodeFn h.legal hpx'
  exact ⟨_, exec_of_decodeFn hans.1 hpx, rfl, h.block ▸ hj⟩

/-- Settles O53, pair by pair. -/
theorem srgbRequestsEqualTheirTwins : Obligations.SrgbRequestsEqualTheirTwins := by
  intro d s i j hmem hans
  have htwins : Twins i j := by
    simp only [List.mem_cons, Prod.mk.injEq, List.not_mem_nil, or_false] at hmem
    obtain ⟨rfl, rfl⟩ | ⟨rfl, rfl⟩ | ⟨rfl, rfl⟩ | ⟨rfl, rfl⟩ | ⟨rfl, rfl⟩ | ⟨rfl, rfl⟩ | ⟨rfl, rfl⟩ | ⟨rfl, rfl⟩ := hmem
    all_goals exact ⟨rfl, rfl, rfl, fun _ _ => rfl⟩
  obtain ⟨t, hi, hvalid, hj⟩ := exec_of_twins htwins hans
  exact ⟨t, hi, hvalid, hj, htwins.code⟩

end Sys2Proof.Proofs
end

section
/-! PROOFS. EAC (42_eac): the 11-bit values from the bytes of the block, the four requests, and how they compare. -/

namespace Sys2Proof.Proofs

open Sys2Proof Sys2Proof.Machine Sys2Proof.Claims Sys2Proof.Laws

/-! The 11-bit values from the bytes -/

section
variable {d : Block} {o : Nat} {c : Word64}

/-- A byte is its own sign extension from 8 bits, and the model's replacement of -128 is the lower bound -127
(42_eac R165). -/
theorem eacSignedBase_eq (hc : WordAt d o c) : eacSignedBase c = max (signedByte (byte d o)) (-127) := by
  have hlt := byte_lt d o
  have hsext : sext 8 (byte d o) = signedByte (byte d o) := by
    simp only [sext, signedByte]
    split <;> split <;> omega
  rw [eacSignedBase, eacBase_eq hc, hsext]
  have hmin : -128 ≤ signedByte (byte d o) := by
    rw [signedByte]
    split <;> omega
  split <;> omega

/-- The model scales the product of multiplier and modifier by 8, or adds the modifier alone (42_eac R164, R165). -/
theorem ite_eacMul_eq (hc : WordAt d o c) (T : Config.Tables) (p : Fin 16) (base lo hi : Int) :
    (if eacMul c ≠ 0 then clamp (base + eacMul c * eacModifier T c (columnMajor p) * 8) lo hi
      else clamp (base + eacModifier T c (columnMajor p)) lo hi) = clamp (base + eacOffset T d o p) lo hi := by
  rw [eacMul_eq hc, eacModifier_eq hc, eacOffset]
  by_cases hmul : eacMulOf d o = 0
  · rw [if_neg (not_not.mpr hmul), if_pos hmul]
  · rw [if_pos hmul, if_neg hmul]
    congr 2
    ring

/-- The unsigned value of pixel `p`, widened (42_eac R164). -/
theorem eac11u_eq (hc : WordAt d o c) (T : Config.Tables) (p : Fin 16) : eac11u T c p = eac11uOf T d o p := by
  rw [eac11u, eac11uValue, ite_eacMul_eq hc, eacBase_eq hc, eac11uOf, Int.mul_comm 8]

/-- The signed value of pixel `p`, widened (42_eac R165). -/
theorem eac11s_eq (hc : WordAt d o c) (T : Config.Tables) (p : Fin 16) : eac11s T c p = eac11sOf T d o p := by
  rw [eac11s, eac11sValue, ite_eacMul_eq hc, eacSignedBase_eq hc, eac11sOf, Int.mul_comm 8]

end

/-! The requests -/

/-- Settles O31: the red lane's word is the first half of the block, the green lane's the second. -/
theorem eacRequestsFromTheirBytes : Obligations.EacRequestsFromTheirBytes := by
  intro d s
  have hu0 := eac11u_eq (wordAt_w0 d) s.params.tables
  have hu1 := eac11u_eq (wordAt_w1 d) s.params.tables
  have hs0 := eac11s_eq (wordAt_w0 d) s.params.tables
  have hs1 := eac11s_eq (wordAt_w1 d) s.params.tables
  simp only [← hu0, ← hu1, ← hs0, ← hs1]
  exact ⟨runDecode_eq 1 d (eacR11Pixels s.params.tables) s, runDecode_eq 2 d (eacSignedR11Pixels s.params.tables) s,
    runDecode_eq 3 d (eacRg11Pixels s.params.tables) s, runDecode_eq 4 d (eacSignedRg11Pixels s.params.tables) s⟩

/-! RG11 against R11 -/

/-- The first word of the second half is the block's second word. -/
theorem w0_upperHalf (d : Block) : w0 (upperHalf d) = w1 d := by simp [w0, w1, upperHalf]

/-- The unsigned values of the second half, taken as a block of its own. -/
theorem eac11uOf_upperHalf (T : Config.Tables) (d : Block) (p : Fin 16) : eac11uOf T (upperHalf d) 0 p = eac11uOf T d 8 p := by
  rw [← eac11u_eq (wordAt_w0 _), w0_upperHalf, eac11u_eq (wordAt_w1 d)]

/-- The signed values of the second half, taken as a block of its own. -/
theorem eac11sOf_upperHalf (T : Config.Tables) (d : Block) (p : Fin 16) : eac11sOf T (upperHalf d) 0 p = eac11sOf T d 8 p := by
  rw [← eac11s_eq (wordAt_w0 _), w0_upperHalf, eac11s_eq (wordAt_w1 d)]

/-- Settles O32: lane 1 of RG11 is lane 0 of R11 on the second half. -/
theorem rg11IsTwoIndependentR11 : Obligations.Rg11IsTwoIndependentR11 := by
  intro d s
  obtain ⟨hr11, hsr11, hrg11, hsrg11⟩ := eacRequestsFromTheirBytes d s
  obtain ⟨hr11', hsr11', -, -⟩ := eacRequestsFromTheirBytes (upperHalf d) s
  refine ⟨⟨_, _, _, hrg11, hr11, hr11', fun p => ?_⟩, _, _, _, hsrg11, hsr11, hsr11', fun p => ?_⟩
  · simp only [pixels_getElem, eac11uOf_upperHalf]
  · simp only [pixels_getElem, eac11sOf_upperHalf]

/-! The base codeword -128 -/

theorem byte_set (d : Block) {i : Nat} (hi : i < 16) (b : Byte) (k : Nat) :
    byte (d.set i b hi) k = if i = k then b.toNat else byte d k := by
  unfold byte
  split
  · rw [Vector.getElem_set, apply_ite BitVec.toNat]
  · rw [if_neg (by omega)]

/-- Bytes outside a range may be set to anything. -/
theorem sameBytes_set {d d' : Block} {lo hi i : Nat} (h : SameBytes d d' lo hi) (hi16 : i < 16) (hout : i < lo ∨ hi ≤ i)
    (b b' : Byte) : SameBytes (d.set i b hi16) (d'.set i b' hi16) lo hi := by
  intro k hlo hhi
  have hne : i ≠ k := by omega
  rw [byte_set, byte_set, if_neg hne, if_neg hne, h k hlo hhi]

/-- The multiplier and the modifiers are read from the bytes of an EAC word above its base codeword (42_eac R160 to R162). -/
theorem eacOffset_of_sameBytes {d d' : Block} {o : Nat} (h : SameBytes d d' (o + 1) (o + 8)) (T : Config.Tables) (p : Fin 16) :
    eacOffset T d o p = eacOffset T d' o p := by
  have hbyte : ∀ j, 1 ≤ j → j < 8 → byte d (o + j) = byte d' (o + j) := fun j h1 h8 => h _ (by omega) (by omega)
  have hmul : eacMulOf d o = eacMulOf d' o := by simp only [eacMulOf, hbyte, Nat.one_lt_ofNat, le_refl]
  have hmod : eacMod T d o p = eacMod T d' o p := by
    simp only [eacMod, eacIdx, be48, hbyte, Nat.reduceLT, Nat.reduceLeDiff]
  rw [eacOffset, eacOffset, hmul, hmod]

/-- The base codeword at byte `o` is -128 or -127 (42_eac R165). -/
def BaseMinus127 (d : Block) (o : Nat) : Prop := byte d o = 0x80 ∨ byte d o = 0x81

/-- Both codewords stand for -127. -/
theorem BaseMinus127.max_signedByte {d : Block} {o : Nat} (h : BaseMinus127 d o) :
    max (signedByte (byte d o)) (-127) = -127 := by
  obtain h80 | h81 := h
  · rw [h80]
    rfl
  · rw [h81]
    rfl

/-- Words that differ in nothing but which of the two codewords they hold have the same values. -/
theorem BaseMinus127.eac11sOf_eq {d d' : Block} {o : Nat} (h : BaseMinus127 d o) (h' : BaseMinus127 d' o)
    (hrest : SameBytes d d' (o + 1) (o + 8)) (T : Config.Tables) (p : Fin 16) : eac11sOf T d o p = eac11sOf T d' o p := by
  rw [eac11sOf, eac11sOf, h.max_signedByte, h'.max_signedByte, eacOffset_of_sameBytes hrest]

/-- Settles O33: in each half both base codewords stand for -127, and the other bytes are the same. -/
theorem signedEacBaseMinus128 : Obligations.SignedEacBaseMinus128 := by
  intro d s
  have hsame : ∀ lo hi, SameBytes d d lo hi := fun _ _ _ _ _ => rfl
  obtain ⟨-, hr11, -, -⟩ := eacRequestsFromTheirBytes (d.set 0 0x80) s
  obtain ⟨-, hr11', -, -⟩ := eacRequestsFromTheirBytes (d.set 0 0x81) s
  obtain ⟨-, -, -, hrg11⟩ := eacRequestsFromTheirBytes ((d.set 0 0x80).set 8 0x81) s
  obtain ⟨-, -, -, hrg11'⟩ := eacRequestsFromTheirBytes ((d.set 0 0x81).set 8 0x80) s
  refine ⟨⟨_, _, hr11, hr11', ?_⟩, _, _, hrg11, hrg11', ?_⟩
  · have hrest : SameBytes (d.set 0 0x80) (d.set 0 0x81) 1 8 :=
      sameBytes_set (hsame _ _) (by decide) (.inl (by decide)) _ _
    have hred := BaseMinus127.eac11sOf_eq (o := 0) (.inl (by simp [byte_set])) (.inr (by simp [byte_set])) hrest
    simp only [hred]
  · have hrest : ∀ {lo hi}, 0 < lo → hi ≤ 8 ∨ 8 < lo →
        SameBytes ((d.set 0 0x80).set 8 0x81) ((d.set 0 0x81).set 8 0x80) lo hi := fun h0 h8 =>
      sameBytes_set (sameBytes_set (hsame _ _) (by decide) (.inl h0) _ _) (by decide) h8.symm _ _
    have hred := BaseMinus127.eac11sOf_eq (o := 0) (.inl (by simp [byte_set])) (.inr (by simp [byte_set]))
      (hrest (by decide) (.inl (by decide)))
    have hgreen := BaseMinus127.eac11sOf_eq (o := 8) (.inr (by simp [byte_set])) (.inl (by simp [byte_set]))
      (hrest (by decide) (.inr (by decide)))
    simp only [hred, hgreen]

end Sys2Proof.Proofs
end

section
/-! PROOFS. The fields of a little-endian word, read from the bytes of the block (30_encoding R75 to R77): what the BC rules
take from `LO` and `HI` is what Claims reads at byte 0 and at byte 8. -/

namespace Sys2Proof.Proofs

open Sys2Proof Sys2Proof.Machine Sys2Proof.Claims Sys2Proof.Laws

/-- `c` is the little-endian word at byte `o` of the block (10_state R23). -/
def LeWordAt (d : Block) (o : Nat) (c : Word64) : Prop := ∀ j < 8, c.toNat / 2 ^ (8 * j) % 2 ^ 8 = byte d (o + j)

/-- A word assembled from the bytes at `o` is the word at `o`. -/
theorem leWordAt_of_toNat {d : Block} {o : Nat} {c : Word64}
    (h : c.toNat = byte d (o + 0) + byte d (o + 1) * 2 ^ 8 + byte d (o + 2) * 2 ^ 16 + byte d (o + 3) * 2 ^ 24
      + byte d (o + 4) * 2 ^ 32 + byte d (o + 5) * 2 ^ 40 + byte d (o + 6) * 2 ^ 48 + byte d (o + 7) * 2 ^ 56) :
    LeWordAt d o c := by
  have h0 := byte_lt d (o + 0); have h1 := byte_lt d (o + 1); have h2 := byte_lt d (o + 2); have h3 := byte_lt d (o + 3)
  have h4 := byte_lt d (o + 4); have h5 := byte_lt d (o + 5); have h6 := byte_lt d (o + 6); have h7 := byte_lt d (o + 7)
  intro j hj
  interval_cases j <;> omega

theorem leWordAt_lo (d : Block) : LeWordAt d 0 (lo d) := leWordAt_of_toNat (le64_toNat ..)

theorem leWordAt_hi (d : Block) : LeWordAt d 8 (hi d) := leWordAt_of_toNat (le64_toNat ..)

section
variable {d : Block} {o : Nat} {c : Word64}

/-- A field of `w` bits that lies inside byte `j`, from bit `k` of the byte on. -/
theorem LeWordAt.bits_eq (hc : LeWordAt d o c) {lo hi : Nat} (j k w : Nat) (hj : j < 8) (hk : k + w ≤ 8)
    (hlo : lo = 8 * j + k) (hhi : hi + 1 = lo + w) (h : lo ≤ hi ∧ hi ≤ 63 ∧ hi - lo + 1 ≤ 32) :
    bits c lo hi h = byte d (o + j) / 2 ^ k % 2 ^ w := by
  have hwidth : hi - lo + 1 = w := by omega
  rw [bits, slice, hwidth, hlo, pow_add, ← Nat.div_div_eq_div_mul, ← hc j hj, field_mod_two_pow _ hk]

/-! The ramp block (30_encoding R77) -/

theorem rampByte0_eq (hc : LeWordAt d o c) : rampByte0 c = byte d o := by
  rw [rampByte0, hc.bits_eq 0 0 8 (by omega) (by omega) rfl rfl, pow_zero, Nat.div_one]
  exact Nat.mod_eq_of_lt (byte_lt d o)

theorem rampByte1_eq (hc : LeWordAt d o c) : rampByte1 c = byte d (o + 1) := by
  rw [rampByte1, hc.bits_eq 1 0 8 (by omega) (by omega) rfl rfl, pow_zero, Nat.div_one]
  exact Nat.mod_eq_of_lt (byte_lt d (o + 1))

/-- Above the endpoint bytes stand the six index bytes. -/
theorem toNat_div_eq_le48 (hc : LeWordAt d o c) : c.toNat / 2 ^ 16 = le48 d o := by
  have hlt := c.isLt
  have h2 := hc 2 (by decide); have h3 := hc 3 (by decide); have h4 := hc 4 (by decide); have h5 := hc 5 (by decide)
  have h6 := hc 6 (by decide); have h7 := hc 7 (by decide)
  rw [le48]
  omega

theorem rampIndex_eq (hc : LeWordAt d o c) (p : Fin 16) : rampIndex c p = rampIdx d o p := by
  have hwidth : 18 + 3 * p.val - (16 + 3 * p.val) + 1 = 3 := by omega
  rw [rampIndex, bits, slice, hwidth, pow_add, ← Nat.div_div_eq_div_mul, toNat_div_eq_le48 hc, pow_mul]
  rfl

theorem rampIdx_lt (d : Block) (o : Nat) (p : Fin 16) : rampIdx d o p < 8 := Nat.mod_lt _ (by decide)

/-! The colour block (43_bc1_bc2_bc3 R180) -/

theorem bcEnd0_eq (hc : LeWordAt d o c) : bcEnd0 c = bcEnd d o 0 := by
  have h0 := hc 0 (by decide); have h1 := hc 1 (by decide)
  have hend : bcEnd d o 0 = byte d (o + 0) + 256 * byte d (o + 1) := rfl
  rw [bcEnd0, bits, slice, hend]
  omega

theorem bcEnd1_eq (hc : LeWordAt d o c) : bcEnd1 c = bcEnd d o 1 := by
  have h2 := hc 2 (by decide); have h3 := hc 3 (by decide)
  have hend : bcEnd d o 1 = byte d (o + 2) + 256 * byte d (o + 3) := rfl
  rw [bcEnd1, bits, slice, hend]
  omega

theorem bcEnd_lt (d : Block) (o j : Nat) : bcEnd d o j < 65536 := by
  have h0 := byte_lt d (o + 2 * j); have h1 := byte_lt d (o + 2 * j + 1)
  rw [bcEnd]
  omega

/-- Four indices stand in a byte, so the index of pixel `p` stands in byte `4 + p / 4`. -/
theorem bcIndex_eq (hc : LeWordAt d o c) (p : Fin 16) : bcIndex c p = bcIdx d o p := by
  rw [bcIndex, hc.bits_eq (4 + p.val / 4) (2 * (p.val % 4)) 2 (by omega) (by omega) (by omega) (by omega), pow_mul,
    ← Nat.add_assoc]
  rfl

theorem bcIdx_lt (d : Block) (o : Nat) (p : Fin 16) : bcIdx d o p < 4 := Nat.mod_lt _ (by decide)

theorem threeColour_eq (hc : LeWordAt d o c) (allow3 : Bool) : threeColour c allow3 = (allow3 && bcThree d o) := by
  rw [threeColour, bcEnd0_eq hc, bcEnd1_eq hc, bcThree]

end

/-! The alpha block of BC2 (43_bc1_bc2_bc3 R190) -/

/-- Two nibbles stand in a byte, so that of pixel `p` stands in byte `p / 2`; repeating the nibble multiplies it by 17. -/
theorem bc2Alpha_eq {d : Block} {c : Word64} (hc : LeWordAt d 0 c) (p : Fin 16) : bc2Alpha c p = bc2AlphaOf d p := by
  have hnibble : bits c (4 * p.val) (4 * p.val + 3) = byte d (p.val / 2) / 16 ^ (p.val % 2) % 16 := by
    rw [hc.bits_eq (p.val / 2) (4 * (p.val % 2)) 4 (by omega) (by omega) (by omega) (by omega), pow_mul, Nat.zero_add]
    rfl
  rw [bc2Alpha, hnibble, ext4, bc2AlphaOf]
  omega

end Sys2Proof.Proofs
end

section
/-! PROOFS. BC1, BC2 and BC3 (43_bc1_bc2_bc3): palettes and ramps from the bytes of the block, the eight requests, and how
palettes and ramps run between their endpoints. -/

namespace Sys2Proof.Proofs

open Sys2Proof Sys2Proof.Machine Sys2Proof.Claims Sys2Proof.Laws

/-! Palettes and ramps, channel by channel -/

/-- The two readings of a 565 colour: as slices, and by division (43_bc1_bc2_bc3 R181). -/
theorem rgb565_eq {c : Nat} (h : c < 65536) : rgb565 c = rgba (bc565 c) 255 := by
  have hr : slice c 11 15 = c / 2048 := by rw [slice]; omega
  have hg : slice c 5 10 = c / 32 % 64 := rfl
  have hb : slice c 0 4 = c % 32 := by rw [slice]; omega
  rw [rgb565, hr, hg, hb]
  rfl

theorem palette4_eq {c0 c1 i : Nat} (h0 : c0 < 65536) (h1 : c1 < 65536) (hi : i < 4) :
    palette4 c0 c1 i = rgba (bcChannel false c0 c1 i) 255 := by
  unfold palette4
  rw [rgb565_eq h0, rgb565_eq h1]
  interval_cases i <;> rfl

theorem palette3_eq {c0 c1 i : Nat} (h0 : c0 < 65536) (h1 : c1 < 65536) (hi : i < 4) (alphaFmt : Bool) :
    palette3 alphaFmt c0 c1 i = rgba (bcChannel true c0 c1 i) (if alphaFmt = true ∧ i = 3 then 0 else 255) := by
  unfold palette3
  rw [rgb565_eq h0, rgb565_eq h1]
  interval_cases i <;> cases alphaFmt <;> rfl

/-- The two readings of the alpha ramp: entry by entry, and as one weighted sum for each shape (43_bc1_bc2_bc3 R193). -/
theorem ramp8_eq (e0 e1 : Nat) {i : Nat} (hi : i < 8) : ramp8 e0 e1 i = rampAlpha e0 e1 i := by
  unfold ramp8 rampAlpha
  interval_cases i <;> simp

/-! Pixels -/

section
variable {d : Block} {o : Nat} {c : Word64}

/-- The colour of pixel `p` in a format that has the three-colour mode or does not (43_bc1_bc2_bc3 R182, R185). -/
theorem bc1Colour_eq (hc : LeWordAt d o c) (allow3 alphaFmt : Bool) (p : Fin 16) :
    bc1Colour c allow3 alphaFmt p =
      rgba (bcChannel (allow3 && bcThree d o) (bcEnd d o 0) (bcEnd d o 1) (bcIdx d o p))
        (if alphaFmt = true ∧ (allow3 && bcThree d o) = true ∧ bcIdx d o p = 3 then 0 else 255) := by
  have h0 := bcEnd_lt d o 0
  have h1 := bcEnd_lt d o 1
  have hi := bcIdx_lt d o p
  rw [bc1Colour, threeColour_eq hc, bcEnd0_eq hc, bcEnd1_eq hc, bcIndex_eq hc]
  cases allow3 && bcThree d o with
  | true => simp [palette3_eq h0 h1 hi]
  | false => simp [palette4_eq h0 h1 hi]

/-- The lanes of four channel values of the block's palette. -/
theorem rgba_bcChannel_pixel (d : Block) (o : Nat) (three : Bool) (p : Fin 16) (alpha : Nat) :
    (rgba (bcChannel three (bcEnd d o 0) (bcEnd d o 1) (bcIdx d o p)) alpha).pixel = bcPixel d o three p alpha := rfl

/-- A pixel of a format that gives its alpha itself: always of the four-colour palette (43_bc1_bc2_bc3 R191, R195). -/
theorem bc1Colour_setAlpha (hc : LeWordAt d o c) (p : Fin 16) (alpha : Nat) :
    { bc1Colour c false true p with a := alpha }.pixel = bcPixel d o false p alpha := by
  rw [bc1Colour_eq hc]
  rfl

theorem bc3Alpha_eq (hc : LeWordAt d o c) (p : Fin 16) :
    bc3Alpha c p = rampAlpha (byte d o) (byte d (o + 1)) (rampIdx d o p) := by
  rw [bc3Alpha, rampByte0_eq hc, rampByte1_eq hc, rampIndex_eq hc, ramp8_eq _ _ (rampIdx_lt d o p)]

end

/-! The requests -/

/-- Settles O34: both decoders take their colours from the first half of the block and differ in index 3 of a three-colour
block alone. -/
theorem bc1RequestsFromTheirBytes : Obligations.Bc1RequestsFromTheirBytes := by
  intro d s
  have hrgb : bc1RgbPixels d = pixels fun p => bcPixel d 0 (bcThree d 0) p 255 := by
    simp [bc1RgbPixels, bc1Colour_eq (leWordAt_lo d), rgba_bcChannel_pixel]
  have hrgba : bc1RgbaPixels d = pixels fun p => bcPixel d 0 (bcThree d 0) p (bc1Alpha true d p) := by
    simp [bc1RgbaPixels, bc1Colour_eq (leWordAt_lo d), rgba_bcChannel_pixel, bc1Alpha]
  exact ⟨hrgb ▸ runDecode_eq 11 d bc1RgbPixels s, hrgb ▸ runDecode_eq 12 d bc1RgbPixels s,
    hrgba ▸ runDecode_eq 13 d bc1RgbaPixels s, hrgba ▸ runDecode_eq 14 d bc1RgbaPixels s⟩

/-- Settles O35: both codes run one decoder, which takes its colours from the second half and its alphas from the first. -/
theorem bc2RequestsFromTheirBytes : Obligations.Bc2RequestsFromTheirBytes := by
  intro d s
  have hpx : bc2Pixels d = pixels fun p => bcPixel d 8 false p (bc2AlphaOf d p) := by
    simp only [bc2Pixels, bc2Alpha_eq (leWordAt_lo d), bc1Colour_setAlpha (leWordAt_hi d)]
  exact ⟨hpx ▸ runDecode_eq 15 d bc2Pixels s, hpx ▸ runDecode_eq 16 d bc2Pixels s⟩

/-- Settles O36: both codes run one decoder, which takes its colours from the second half and its alpha ramp from the first. -/
theorem bc3RequestsFromTheirBytes : Obligations.Bc3RequestsFromTheirBytes := by
  intro d s
  have hpx : bc3Pixels d = pixels fun p => bcPixel d 8 false p (rampAlpha (byte d 0) (byte d 1) (rampIdx d 0 p)) := by
    simp only [bc3Pixels, bc3Alpha_eq (leWordAt_lo d), bc1Colour_setAlpha (leWordAt_hi d)]
  exact ⟨hpx ▸ runDecode_eq 17 d bc3Pixels s, hpx ▸ runDecode_eq 18 d bc3Pixels s⟩

/-! Entries between two endpoints -/

/-- The entry `k` steps of `n` from `a` to `b`, rounded down: the shape of every interpolated entry of a palette or an alpha
ramp (43_bc1_bc2_bc3 R183, R184, R193). -/
def stepBetween (n a b k : Nat) : Nat := ((n - k) * a + k * b) / n

theorem stepBetween_zero {n : Nat} (hn : 0 < n) (a b : Nat) : stepBetween n a b 0 = a := by
  simp [stepBetween, hn]

theorem stepBetween_self {n : Nat} (hn : 0 < n) (a b : Nat) : stepBetween n a b n = b := by
  simp [stepBetween, hn]

/-- The same entry, counted from the other endpoint. -/
theorem stepBetween_swap {n k : Nat} (hk : k ≤ n) (a b : Nat) : stepBetween n a b k = stepBetween n b a (n - k) := by
  rw [stepBetween, stepBetween, Nat.sub_sub_self hk, Nat.add_comm]

/-- A step towards the larger endpoint does not lower the entry: it replaces a part of `a` by as much of `b`. -/
theorem stepBetween_mono {n a b k k' : Nat} (hab : a ≤ b) (hkk : k ≤ k') (hk : k' ≤ n) :
    stepBetween n a b k ≤ stepBetween n a b k' := by
  obtain ⟨t, rfl⟩ := Nat.exists_eq_add_of_le hab
  have hsum : ∀ j ≤ n, (n - j) * a + j * (a + t) = n * a + j * t := fun j hj => by
    rw [Nat.mul_add, ← Nat.add_assoc, ← Nat.add_mul, Nat.sub_add_cancel hj]
  rw [stepBetween, stepBetween, hsum k (hkk.trans hk), hsum k' hk]
  exact Nat.div_le_div_right (Nat.add_le_add_left (Nat.mul_le_mul_right t hkk) _)

/-- A step towards the smaller endpoint does not raise the entry. -/
theorem stepBetween_anti {n a b k k' : Nat} (hba : b ≤ a) (hkk : k ≤ k') (hk : k' ≤ n) :
    stepBetween n a b k' ≤ stepBetween n a b k := by
  rw [stepBetween_swap hk, stepBetween_swap (hkk.trans hk)]
  exact stepBetween_mono hba (by omega) (Nat.sub_le n k)

/-- Entries at ascending steps run from endpoint to endpoint. -/
theorem runsFromTo_stepBetween {n : Nat} (hn : 0 < n) (a b : Nat) {ks : List Nat}
    (hks : (0 :: ks ++ [n]).Pairwise (· ≤ ·)) : RunsFromTo a b (ks.map fun k => (stepBetween n a b k : Int)) := by
  have hends : (a : Int) :: (ks.map fun k => (stepBetween n a b k : Int)) ++ [(b : Int)]
      = (0 :: ks ++ [n]).map fun k => (stepBetween n a b k : Int) := by
    simp [stepBetween_zero hn, stepBetween_self hn]
  have hle : ∀ k ∈ 0 :: ks ++ [n], k ≤ n := by
    intro k hk
    obtain hk | hk := List.mem_append.mp hk
    · exact (List.pairwise_append.mp hks).2.2 k hk n (List.mem_singleton_self n)
    · exact (List.mem_singleton.mp hk).le
  rw [RunsFromTo, hends]
  refine ⟨fun hab => ?_, fun hba => ?_⟩ <;> refine List.pairwise_map.mpr (hks.imp_of_mem fun _ hk' hkk => ?_)
  · exact Int.ofNat_le.mpr (stepBetween_mono (Int.ofNat_le.mp hab) hkk (hle _ hk'))
  · exact Int.ofNat_le.mpr (stepBetween_anti (Int.ofNat_le.mp hba) hkk (hle _ hk'))

/-- A blend is taken channel by channel. -/
theorem channel_blendRgb {f : Rgba → Nat} (hf : f ∈ [Rgba.r, Rgba.g, Rgba.b]) (g : Nat → Nat → Nat) (x y : Rgba) :
    f (blendRgb g x y) = g (f x) (f y) := by
  simp only [List.mem_cons, List.not_mem_nil, or_false] at hf
  obtain rfl | rfl | rfl := hf <;> rfl

/-- The four-colour palette goes from its first endpoint to its second in three steps (43_bc1_bc2_bc3 R183). -/
theorem palette4_runsFromTo {f : Rgba → Nat} (hf : f ∈ [Rgba.r, Rgba.g, Rgba.b]) (c0 c1 : Nat) :
    RunsFromTo (f (rgb565 c0)) (f (rgb565 c1)) [f (palette4 c0 c1 2), f (palette4 c0 c1 3)] := by
  have h := runsFromTo_stepBetween (n := 3) (by decide) (f (rgb565 c0)) (f (rgb565 c1)) (ks := [1, 2]) (by decide)
  simpa [palette4, channel_blendRgb hf, stepBetween] using h

/-- The three-colour palette goes from its first endpoint to its second in two steps (43_bc1_bc2_bc3 R184). -/
theorem palette3_runsFromTo {f : Rgba → Nat} (hf : f ∈ [Rgba.r, Rgba.g, Rgba.b]) (alphaFmt : Bool) (c0 c1 : Nat) :
    RunsFromTo (f (rgb565 c0)) (f (rgb565 c1)) [f (palette3 alphaFmt c0 c1 2)] := by
  have h := runsFromTo_stepBetween (n := 2) (by decide) (f (rgb565 c0)) (f (rgb565 c1)) (ks := [1]) (by decide)
  simpa [palette3, channel_blendRgb hf, stepBetween] using h

/-- The first shape of the alpha ramp has seven steps (43_bc1_bc2_bc3 R193). -/
theorem ramp8_runsFromTo_of_gt {e0 e1 : Nat} (h : e0 > e1) :
    RunsFromTo e0 e1 ([2, 3, 4, 5, 6, 7].map fun i => (ramp8 e0 e1 i : Int)) := by
  have hrun := runsFromTo_stepBetween (n := 7) (by decide) e0 e1 (ks := [1, 2, 3, 4, 5, 6]) (by decide)
  simpa [ramp8, h, stepBetween] using hrun

/-- The second shape has five steps, and two entries off the line (43_bc1_bc2_bc3 R193). -/
theorem ramp8_runsFromTo_of_le {e0 e1 : Nat} (h : e0 ≤ e1) :
    RunsFromTo e0 e1 ([2, 3, 4, 5].map fun i => (ramp8 e0 e1 i : Int)) := by
  have hrun := runsFromTo_stepBetween (n := 5) (by decide) e0 e1 (ks := [1, 2, 3, 4]) (by decide)
  simpa [ramp8, h.not_gt, stepBetween] using hrun

/-- Settles O37: every interpolated entry is a number of equal steps from the first endpoint to the second. -/
theorem palettesRunBetweenTheirEndpoints : Obligations.PalettesRunBetweenTheirEndpoints := by
  refine ⟨fun c0 c1 _ _ f hf => ⟨rfl, rfl, palette4_runsFromTo hf c0 c1, fun alphaFmt =>
    ⟨rfl, rfl, palette3_runsFromTo hf alphaFmt c0 c1⟩⟩, fun e0 e1 _ _ => ⟨?_, ?_, ramp8_runsFromTo_of_gt, fun h =>
    ⟨ramp8_runsFromTo_of_le h, ?_, ?_⟩⟩⟩
  · exact ite_self e0
  · exact ite_self e1
  · exact if_neg h.not_gt
  · exact if_neg h.not_gt

end Sys2Proof.Proofs
end

section
/-! PROOFS. BC4 and BC5 (44_bc4_bc5): the x35 ramp from the bytes of the block, the four requests, BC3 against BC4, and the line
the entries stand on. -/

namespace Sys2Proof.Proofs

open Sys2Proof Sys2Proof.Machine Sys2Proof.Claims Sys2Proof.Laws

/-! The ramp from the bytes -/

/-- A byte as two's complement is its sign extension from 8 bits (40_bitfield_extractor R104). -/
theorem sext8_eq_signedByte {b : Nat} (hb : b < 256) : sext 8 b = signedByte b := by
  simp only [sext, signedByte]
  split <;> split <;> omega

theorem rampCmp_eq (signed : Bool) {b : Nat} (hb : b < 256) : rampCmp signed b = endCmp signed b := by
  rw [rampCmp, endCmp, sext8_eq_signedByte hb]

/-- The bound -127 replaces -128 and no other number a byte can be (44_bc4_bc5 R211). -/
theorem rampEnd_eq (P : Config.Params) (signed : Bool) {b : Nat} (hb : b < 256) : rampEnd P signed b = endVal P signed b := by
  have hmin : -128 ≤ signedByte b := by
    rw [signedByte]
    split <;> omega
  rw [rampEnd, endVal, rampCmp_eq signed hb]
  cases signed with
  | false => simp
  | true =>
    simp only [endCmp, if_true, Bool.true_and, true_and]
    cases P.snormClamp with
    | false => simp
    | true =>
      simp only [if_true, true_and]
      split <;> omega

section
variable {d : Block} {o : Nat} {c : Word64}

/-- The two readings of the ramp: entry by entry, and as one weighted sum for each shape (44_bc4_bc5 R212). -/
theorem rampValue_eq (hc : LeWordAt d o c) (P : Config.Params) (signed : Bool) (p : Fin 16) :
    rampValue P signed c p = rampM P signed d o p := by
  have hi := rampIdx_lt d o p
  rw [rampValue, ramp35, rampByte0_eq hc, rampByte1_eq hc, rampIndex_eq hc, rampCmp_eq signed (byte_lt d o),
    rampCmp_eq signed (byte_lt d (o + 1)), rampEnd_eq P signed (byte_lt d o), rampEnd_eq P signed (byte_lt d (o + 1))]
  unfold ramp35Entry rampM rampEnds
  generalize rampIdx d o p = i at hi
  cases signed with
  | false => interval_cases i <;> simp
  | true => interval_cases i <;> simp

end

/-! The requests -/

/-- Settles O38: one ramp decoder, on the first half of the block for the red lane and on the second for the green one. -/
theorem bc4AndBc5RequestsFromTheirBytes : Obligations.Bc4AndBc5RequestsFromTheirBytes := by
  intro d s
  have hlo := rampValue_eq (leWordAt_lo d) s.params
  have hhi := rampValue_eq (leWordAt_hi d) s.params
  simp only [← hlo, ← hhi]
  exact ⟨runDecode_eq 19 d (bc4Pixels s.params false) s, runDecode_eq 20 d (bc4Pixels s.params true) s,
    runDecode_eq 21 d (bc5Pixels s.params false) s, runDecode_eq 22 d (bc5Pixels s.params true) s⟩

/-! BC3 against BC4 -/

/-- An entry of the unsigned x35 ramp holds 35 times the exact value that the alpha ramp rounds down (44_bc4_bc5 R212,
43_bc1_bc2_bc3 R193). -/
theorem ramp35Entry_unsigned_ediv (e0 e1 : Nat) {i : Nat} (hi : i < 8) :
    ramp35Entry false e0 e1 e0 e1 i / 35 = (ramp8 e0 e1 i : Nat) := by
  simp only [ramp35Entry, ramp8, rampEnds, gt_iff_lt, Int.ofNat_lt, Bool.false_eq_true, if_false]
  split
  · interval_cases i <;> simp only <;> omega
  · interval_cases i <;> simp only <;> omega

theorem rampIndex_lt (a : Word64) (q : Fin 16) : rampIndex a q < 8 := by
  have hwidth : 18 + 3 * q.val - (16 + 3 * q.val) + 1 = 3 := by omega
  rw [rampIndex, bits, slice, hwidth]
  exact Nat.mod_lt _ (by decide)

theorem rampValue_unsigned_ediv (P : Config.Params) (a : Word64) (q : Fin 16) :
    rampValue P false a q / 35 = (bc3Alpha a q : Nat) :=
  ramp35Entry_unsigned_ediv (rampByte0 a) (rampByte1 a) (rampIndex_lt a q)

/-- The division carries over to the lanes, which hold both values unchanged. -/
theorem laneN_bc3Alpha_toNat (P : Config.Params) (a : Word64) (q : Fin 16) :
    (laneN (bc3Alpha a q)).toNat = (laneZ (rampValue P false a q)).toNat / 35 := by
  obtain ⟨hmin, hmax⟩ : 35 * 0 ≤ rampValue P false a q ∧ rampValue P false a q ≤ 35 * 255 := rampValue_bounds P false a q
  have hdiv := rampValue_unsigned_ediv P a q
  have halpha := bc3Alpha_le a q
  rw [laneN_toNat (by omega), laneZ_toNat (by omega) (by omega)]
  omega

/-- Settles O39: both requests read the ramp of `LO`, one rounded down and one exactly. -/
theorem bc3AlphaIsBc4Over35 : Obligations.Bc3AlphaIsBc4Over35 := by
  intro d s
  refine ⟨_, _, runDecode_eq 17 d bc3Pixels s, runDecode_eq 19 d (bc4Pixels s.params false) s, fun p => ?_⟩
  simp only [bc3Pixels, bc4Pixels, pixels_getElem]
  exact laneN_bc3Alpha_toNat s.params (lo d) p

/-! The channels of BC5 -/

theorem hi_of_sameBytes {d d' : Block} (h : SameBytes d d' 8 16) : hi d = hi d' := by
  have hget : ∀ k (hk : k < 16), 8 ≤ k → d[k] = d'[k] := fun k hk h8 => getElem_of_sameBytes h hk h8 hk
  simp only [hi, hget, Nat.reduceLeDiff]

/-- The red lane reads `LO` alone (44_bc4_bc5 R215, R217). -/
theorem bc5Pixels_c0_of_sameBytes {d d' : Block} (h : SameBytes d d' 0 8) (P : Config.Params) (signed : Bool) (p : Fin 16) :
    (bc5Pixels P signed d)[p].c0 = (bc5Pixels P signed d')[p].c0 := by
  simp only [bc5Pixels, pixels_getElem, lo_of_sameBytes h]

/-- The green lane reads `HI` alone (44_bc4_bc5 R215, R217). -/
theorem bc5Pixels_c1_of_sameBytes {d d' : Block} (h : SameBytes d d' 8 16) (P : Config.Params) (signed : Bool) (p : Fin 16) :
    (bc5Pixels P signed d)[p].c1 = (bc5Pixels P signed d')[p].c1 := by
  simp only [bc5Pixels, pixels_getElem, hi_of_sameBytes h]

/-- What both codes of BC5 have in common: on any two blocks the step completes, and a lane reads its own half alone. -/
theorem runDecode_bc5Pixels_independent (fmt : FmtCode) (signed : Bool) (d d' : Block) (s : State) :
    ∃ t t', runDecode fmt d (bc5Pixels s.params signed) s = .next t ∧ runDecode fmt d' (bc5Pixels s.params signed) s = .next t' ∧
      (SameBytes d d' 0 8 → ∀ p : Fin 16, t.px[p].c0 = t'.px[p].c0) ∧
      (SameBytes d d' 8 16 → ∀ p : Fin 16, t.px[p].c1 = t'.px[p].c1) :=
  ⟨_, _, runDecode_eq .., runDecode_eq .., fun h => bc5Pixels_c0_of_sameBytes h s.params signed,
    fun h => bc5Pixels_c1_of_sameBytes h s.params signed⟩

/-! Equal spacing -/

/-- The entries 0, 2, 3, ..., `n`, 1 of `r` stand at `n` equal steps `t` from `a` to `b` (44_bc4_bc5 R217). -/
structure EquallySpaced (r : Nat → Int) (n : Nat) (a b t : Int) : Prop where
  first : r 0 = a
  inner : ∀ k, 0 < k → k < n → r (k + 1) = a + k * t
  last : r 1 = b
  total : b = a + n * t

section
variable {r : Nat → Int} {n : Nat} {a b t : Int}

theorem EquallySpaced.first_step (h : EquallySpaced r n a b t) (hn : 1 < n) : r 2 - r 0 = t := by
  rw [h.first, h.inner 1 one_pos hn]
  push_cast
  ring

theorem EquallySpaced.inner_step (h : EquallySpaced r n a b t) {i : Nat} (hi : 1 < i) (hn : i < n) : r (i + 1) - r i = t := by
  obtain ⟨k, rfl⟩ := Nat.exists_eq_add_of_le' hi.le
  rw [h.inner (k + 1) k.succ_pos hn, h.inner k (by omega) (by omega)]
  push_cast
  ring

theorem EquallySpaced.last_step (h : EquallySpaced r n a b t) (hn : 1 < n) : r 1 - r n = t := by
  obtain ⟨k, rfl⟩ := Nat.exists_eq_add_of_le' hn.le
  rw [h.last, h.total, h.inner k (by omega) k.lt_succ_self]
  push_cast
  ring

/-- The two ends and the entries between them are the points 0 to `n` of the line. -/
theorem EquallySpaced.list_eq (h : EquallySpaced r n a b t) (hn : 0 < n) :
    a :: (List.range' 2 (n - 1)).map r ++ [b] = (List.range (n + 1)).map fun k : Nat => a + k * t := by
  obtain ⟨m, rfl⟩ := Nat.exists_eq_add_of_le' hn
  have hinner : (List.range' 2 m).map r = (List.range m).map fun k => a + (k + 1 : Nat) * t := by
    rw [List.range'_eq_map_range, List.map_map]
    refine List.map_congr_left fun k hk => ?_
    rw [← h.inner (k + 1) k.succ_pos (Nat.succ_lt_succ (List.mem_range.mp hk)), Function.comp_apply, Nat.add_comm 2 k]
  rw [Nat.add_sub_cancel, hinner, h.total, List.range_succ, List.range_succ_eq_map]
  simp [Function.comp_def]

/-- Equal steps all lead in one direction, that from the first end to the last. -/
theorem EquallySpaced.runsFromTo (h : EquallySpaced r n a b t) (hn : 0 < n) :
    RunsFromTo a b ((List.range' 2 (n - 1)).map r) := by
  have htotal := h.total
  have hpos : (0 : Int) < n := Int.natCast_pos.mpr hn
  have hle : (List.range (n + 1)).Pairwise (· ≤ ·) := List.pairwise_le_range
  rw [RunsFromTo, h.list_eq hn]
  refine ⟨fun hab => hle.map _ fun k k' hkk => ?_, fun hba => hle.map _ fun k k' hkk => ?_⟩
  · have ht : 0 ≤ t := nonneg_of_mul_nonneg_right (by omega) hpos
    exact Int.add_le_add_left (Int.mul_le_mul_of_nonneg_right (Int.ofNat_le.mpr hkk) ht) a
  · have ht : t ≤ 0 := nonpos_of_mul_nonpos_right (by omega) hpos
    exact Int.add_le_add_left (Int.mul_le_mul_of_nonpos_right (Int.ofNat_le.mpr hkk) ht) a

end

/-- The first shape: seven steps (44_bc4_bc5 R212). -/
theorem ramp35Entry_equallySpaced_of_gt (signed : Bool) {cmp0 cmp1 : Int} (h : cmp1 < cmp0) (e0 e1 : Int) :
    EquallySpaced (ramp35Entry signed cmp0 cmp1 e0 e1) 7 (35 * e0) (35 * e1) (5 * (e1 - e0)) where
  first := if_pos h
  inner k hk hn := by
    interval_cases k <;> simp only [ramp35Entry, gt_iff_lt, if_pos h, Nat.reduceAdd] <;> omega
  last := if_pos h
  total := by omega

/-- The second shape: five steps, and two entries off the line (44_bc4_bc5 R212). -/
theorem ramp35Entry_equallySpaced_of_le (signed : Bool) {cmp0 cmp1 : Int} (h : cmp0 ≤ cmp1) (e0 e1 : Int) :
    EquallySpaced (ramp35Entry signed cmp0 cmp1 e0 e1) 5 (35 * e0) (35 * e1) (7 * (e1 - e0)) where
  first := if_neg h.not_gt
  inner k hk hn := by
    interval_cases k <;> simp only [ramp35Entry, gt_iff_lt, if_neg h.not_gt, Nat.reduceAdd] <;> omega
  last := if_neg h.not_gt
  total := by omega

/-- Settles O40: each lane of BC5 reads its own word, and both shapes of the ramp are equally spaced. -/
theorem rampChannelsAreIndependentAndExact : Obligations.RampChannelsAreIndependentAndExact := by
  refine ⟨runDecode_bc5Pixels_independent 21 false, runDecode_bc5Pixels_independent 22 true,
    fun signed cmp0 cmp1 e0 e1 h => ?_, fun signed cmp0 cmp1 e0 e1 h => ?_⟩
  · have hline := ramp35Entry_equallySpaced_of_gt signed h e0 e1
    have hinner : ∀ i ∈ [2, 3, 4, 5, 6], 1 < i ∧ i < 7 := by decide
    exact ⟨hline.first, hline.last, hline.first_step (by decide), hline.last_step (by decide),
      fun i hi => hline.inner_step (hinner i hi).1 (hinner i hi).2, hline.runsFromTo (by decide)⟩
  · have hline := ramp35Entry_equallySpaced_of_le signed h e0 e1
    have hinner : ∀ i ∈ [2, 3, 4], 1 < i ∧ i < 5 := by decide
    exact ⟨hline.first, hline.last, hline.first_step (by decide), hline.last_step (by decide),
      fun i hi => hline.inner_step (hinner i hi).1 (hinner i hi).2, hline.runsFromTo (by decide)⟩

end Sys2Proof.Proofs
end

section
/-! PROOFS. The tables and helpers that BC6H and BC7 share (45_shared_tables): the checks of the printed tables, what `interp`
answers, and where the index streams end. -/

namespace Sys2Proof.Proofs

open Sys2Proof Sys2Proof.Machine

/-! The checks of the printed tables (45_shared_tables R235, R239; 42_eac R161) -/

/-- Pixel 0 lies in subset 0 and each further anchor in its own subset (45_shared_tables R239 (a), (b)). -/
theorem anchors_in_their_subsets : ∀ part < 64,
    (subset Config.Tables.printed 2 part 0 = 0 ∧
      subset Config.Tables.printed 2 part (part2 Config.Tables.printed part).anchor = 1) ∧
    subset Config.Tables.printed 3 part 0 = 0 ∧
    subset Config.Tables.printed 3 part (part3 Config.Tables.printed part).anchor1 = 1 ∧
    subset Config.Tables.printed 3 part (part3 Config.Tables.printed part).anchor2 = 2 := by
  decide

/-- The anchors are pixels of the block. -/
theorem anchors_lt_sixteen : ∀ part < 64,
    (part2 Config.Tables.printed part).anchor < 16 ∧ (part3 Config.Tables.printed part).anchor1 < 16 ∧
    (part3 Config.Tables.printed part).anchor2 < 16 := by
  decide

/-- No two-subset partition is printed twice (45_shared_tables R239 (c)). -/
theorem part2_rows_distinct : (Config.Tables.printed.p2.toList.map Config.Part2.mask).Nodup := by
  decide

/-- No three-subset partition is printed twice (45_shared_tables R239 (c)). -/
theorem part3_rows_distinct : (Config.Tables.printed.p3.toList.map fun r => (r.mask1, r.mask2)).Nodup := by
  decide

/-- Subsets 1 and 2 of a printed partition share no pixel. -/
theorem part3_masks_disjoint : ∀ r ∈ Config.Tables.printed.p3.toList, r.mask1 &&& r.mask2 = 0 := by
  decide

/-- The anchor of a subset need not be its first pixel (45_shared_tables R239 (e)). -/
theorem anchor_of_row_zero : (part2 Config.Tables.printed 0).anchor = 15 ∧ subset Config.Tables.printed 2 0 2 = 1 ∧
    subset Config.Tables.printed 2 0 3 = 1 := by
  decide

/-- The weights run from 0 to 64, and mirrored indices share the 64 between them (45_shared_tables R235). -/
theorem weight_ends_and_mirror : ∀ n ∈ [2, 3, 4],
    weight Config.Tables.printed n 0 = 0 ∧ weight Config.Tables.printed n (2 ^ n - 1) = 64 ∧
    ∀ i < 2 ^ n, weight Config.Tables.printed n i + weight Config.Tables.printed n (2 ^ n - 1 - i) = 64 := by
  decide

/-- The upper half of an EAC row is the complement of its lower half (42_eac R161). -/
theorem eacMod_symmetric : ∀ row ∈ Config.Tables.printed.eacMod.toList, ∀ i < 4,
    row.getD (i + 4) 0 = -row.getD i 0 - 1 := by
  decide

/-- Settles O41, check by check. -/
theorem tablesPassTheirChecks : Obligations.TablesPassTheirChecks := by
  obtain ⟨hanchor, hpixel2, hpixel3⟩ := anchor_of_row_zero
  refine ⟨fun part hp => ?_, part2_rows_distinct, part3_rows_distinct, part3_masks_disjoint, hanchor, hpixel2,
    hpixel3, weight_ends_and_mirror, eacMod_symmetric⟩
  obtain ⟨⟨h20, h21⟩, h30, h31, h32⟩ := anchors_in_their_subsets part hp
  exact ⟨h20, h30, h21, h31, h32, anchors_lt_sixteen part hp⟩

/-! Interpolation (45_shared_tables R236) -/

/-- The shift of `interp` is the floor of a division by 64. -/
theorem interp_eq_fdiv (a b : Int) (w : Nat) : interp a b w = Int.fdiv (a * (64 - w) + b * w + 32) 64 :=
  (Int.fdiv_eq_ediv_of_nonneg _ (by decide)).symm

/-- Weight 0 gives the first end: the rounding term alone does not reach 64. -/
theorem interp_zero (a b : Int) : interp a b 0 = a := by
  rw [interp, shr]
  omega

/-- Weight 64 gives the second end. -/
theorem interp_sixtyFour (a b : Int) : interp a b 64 = b := by
  rw [interp, shr]
  omega

/-- Settles O42: `interp_bounds` on the interval between the two ends. -/
theorem interpolationStaysBetweenItsEnds : Obligations.InterpolationStaysBetweenItsEnds := fun a b =>
  ⟨interp_zero a b, interp_sixtyFour a b, fun w hw =>
    ⟨interp_eq_fdiv a b w,
      interp_bounds ⟨min_le_left a b, le_max_left a b⟩ ⟨min_le_right a b, le_max_right a b⟩ hw⟩⟩

/-! The ends of the index streams (45_shared_tables R238) -/

/-- An index stream whose bits fill the block from its start on ends at block bit 127. -/
theorem indexStream_fills (b : Word128) {start n ns part : Nat} (hn : 2 ≤ n) (hp : OneAnchorEach ns part)
    (hfill : start + (16 * n - ns) = 128) :
    ∃ idx, idx.length = 16 ∧ indexStream Config.Tables.printed b start n ns part = some (idx, 128) := by
  obtain ⟨idx, hidx, hlen⟩ := indexStream_printed b hn hp hfill.le
  rw [hfill] at hidx
  exact ⟨idx, hlen, hidx⟩

/-- A BC6H mode has two subsets and 3-bit indices, or one subset and 4-bit indices (46_bc6h R251). -/
theorem bc6hModes_subsets_width : ∀ m ∈ Config.Tables.printed.bc6hModes.toList, m.ns = 2 ∧ m.n = 3 ∨ m.ns = 1 ∧ m.n = 4 := by
  decide

/-- How the index streams of BC7 mode `m` share the rest of the block: one stream that fills it, or in modes 4 and 5 a second
one after the first (47_bc7 R292, R300). -/
structure Bc7StreamsFill (m : Nat) (c : Config.Bc7Mode) : Prop where
  one : c.n2 = 0 → streamAt m c + (16 * c.n1 - c.ns) = 128
  two : c.n2 ≠ 0 → ((m = 4 ∨ m = 5) ∧ c.ns = 1) ∧ 2 ≤ c.n2 ∧ streamAt m c + (16 * c.n1 - c.ns) + (16 * c.n2 - 1) = 128

/-- The streams of every printed BC7 mode fill the block. -/
theorem bc7StreamsFill_printed {m : Nat} {c : Config.Bc7Mode} (h : Config.bc7Modes[m]? = some c) : Bc7StreamsFill m c := by
  have hfill : ∀ m : Fin 8, Bc7StreamsFill m Config.bc7Modes[m] := by
    intro m
    fin_cases m <;> constructor <;> decide
  obtain ⟨hm, rfl⟩ := Vector.getElem?_eq_some_iff.mp h
  exact hfill ⟨m, hm⟩

/-- A BC6H block's one stream ends with the block, in either shape of mode. -/
theorem bc6hStream_fills (b : Word128) {m : Config.Bc6hMode} (hm : m ∈ Config.Tables.printed.bc6hModes.toList) {part : Nat}
    (hp : part < 32) :
    ∃ idx, idx.length = 16 ∧
      indexStream Config.Tables.printed b (bc6hStreamStart m) m.n m.ns (if m.ns = 2 then part else 0) = some (idx, 128) ∧
      (m.ns = 2 → m.n = 3 ∧ bc6hStreamStart m = 82) ∧ (m.ns ≠ 2 → m.ns = 1 ∧ m.n = 4 ∧ bc6hStreamStart m = 65) := by
  obtain ⟨hns, hn⟩ | ⟨hns, hn⟩ := bc6hModes_subsets_width m hm
  · have hstart : bc6hStreamStart m = 82 := if_pos hns
    obtain ⟨idx, hlen, hidx⟩ :=
      indexStream_fills b (start := 82) (n := 3) (part := part) (by decide) (.inr ⟨.inl rfl, by omega⟩) (by decide)
    rw [hstart, hns, hn, if_pos rfl]
    exact ⟨idx, hlen, hidx, fun _ => ⟨rfl, rfl⟩, fun h => absurd rfl h⟩
  · have hstart : bc6hStreamStart m = 65 := if_neg (by omega)
    obtain ⟨idx, hlen, hidx⟩ :=
      indexStream_fills b (start := 65) (n := 4) (part := 0) (by decide) (.inl rfl) (by decide)
    rw [hstart, hns, hn, if_neg (by decide)]
    exact ⟨idx, hlen, hidx, fun h => absurd h (by decide), fun _ => ⟨rfl, rfl, rfl⟩⟩

/-- A BC7 block's last stream ends with the block: the first one, or in modes 4 and 5 the second. -/
theorem bc7Streams_fill (b : Word128) {m : Nat} {c : Config.Bc7Mode} (hm : Config.bc7Modes[m]? = some c) {part : Nat}
    (hp : part < 2 ^ c.pb) :
    ∃ idx1 e1 idx2, idx1.length = 16 ∧
      indexStream Config.Tables.printed b (streamAt m c) c.n1 c.ns part = some (idx1, e1) ∧
      bc7SecondStream Config.Tables.printed b c e1 = some (idx2, 128) ∧
      (c.n2 = 0 → e1 = 128) ∧ (c.n2 ≠ 0 → (m = 4 ∨ m = 5) ∧ c.ns = 1 ∧ idx2.length = 16) := by
  have hc := bc7Fits_printed hm
  have hfill := bc7StreamsFill_printed hm
  obtain ⟨idx1, hidx1, hlen1⟩ := indexStream_printed b hc.width1 (oneAnchorEach_of_lt hc hp) hc.stream1
  by_cases h2 : c.n2 = 0
  · refine ⟨idx1, _, [], hlen1, hidx1, ?_, fun _ => hfill.one h2, fun h => absurd h2 h⟩
    rw [bc7SecondStream, if_pos h2, hfill.one h2]
  · obtain ⟨⟨hmode, hns⟩, hwidth, hroom⟩ := hfill.two h2
    obtain ⟨idx2, hlen2, hidx2⟩ := indexStream_fills b (part := 0) hwidth (.inl rfl) hroom
    refine ⟨idx1, _, idx2, hlen1, hidx1, ?_, fun h => absurd h h2, fun _ => ⟨hmode, hns, hlen2⟩⟩
    rw [bc7SecondStream, if_neg h2]
    exact hidx2

/-- Settles O43, BC6H and BC7 apart. -/
theorem indexStreamsEndWithTheBlock : Obligations.IndexStreamsEndWithTheBlock :=
  ⟨fun _ hm _ hp b => bc6hStream_fills b hm hp, fun _ _ hm _ hp b => bc7Streams_fill b hm hp⟩

end Sys2Proof.Proofs
end

section
/-! PROOFS. BC6H mode selection and working ranges (46_bc6h R250, R252, R258, R259, R262, R263): which first bytes select a
mode, that the others deliver black, and what unquantisation and output scaling can answer. -/

namespace Sys2Proof.Proofs

open Sys2Proof Sys2Proof.Machine Sys2Proof.Safety Sys2Proof.Claims Sys2Proof.Laws

/-! Mode selection (46_bc6h R250, R252) -/

/-- A search whose tests agree on the list finds the same place. -/
theorem findIdx?_congr {α : Type} {p q : α → Bool} {l : List α} (h : ∀ x ∈ l, p x = q x) : l.findIdx? p = l.findIdx? q := by
  induction l with
  | nil => rfl
  | cons x xs ih =>
    rw [List.findIdx?_cons, List.findIdx?_cons, h x List.mem_cons_self, ih fun y hy => h y (List.mem_cons_of_mem x hy)]

/-- The five low bits of the first byte select the mode. -/
theorem bc6hModeNumber_mod (b : Nat) :
    bc6hModeNumber Config.Tables.printed b = bc6hModeNumber Config.Tables.printed (b % 32) := by
  have hbits : ∀ m ∈ Config.Tables.printed.bc6hModes.toList, 2 ^ m.modeBits ∣ 32 := by decide
  refine findIdx?_congr fun m hm => ?_
  rw [Nat.mod_mod_of_dvd b (hbits m hm)]

/-- The two patterns of two bits (46_bc6h R250), whatever the three bits above them. -/
theorem bc6hModeNumber_two_bits : ∀ b < 32,
    (b % 4 = 0 → bc6hModeNumber Config.Tables.printed b = some 0) ∧
    (b % 4 = 1 → bc6hModeNumber Config.Tables.printed b = some 1) := by
  decide

/-- The patterns of five bits that end in `10` (46_bc6h R250). -/
theorem bc6hModeNumber_two_subsets : ∀ k < 8, bc6hModeNumber Config.Tables.printed (4 * k + 2) = some (k + 2) := by
  decide

/-- The patterns of five bits that end in `11` and begin with 0 (46_bc6h R250). -/
theorem bc6hModeNumber_one_subset : ∀ k < 4, bc6hModeNumber Config.Tables.printed (4 * k + 3) = some (k + 10) := by
  decide

/-- The patterns that select no mode (46_bc6h R250, R252). -/
theorem bc6hModeNumber_reserved : ∀ b ∈ [0x13, 0x17, 0x1B, 0x1F], bc6hModeNumber Config.Tables.printed b = none := by
  decide

/-- Settles O44: the five low bits decide, and each of their patterns stands in the table or is reserved. -/
theorem bc6hModeOfTheFirstByte : Obligations.Bc6hModeOfTheFirstByte := by
  intro b _
  have hfour : b % 32 % 4 = b % 4 := Nat.mod_mod_of_dvd b (by decide)
  obtain ⟨hzero, hone⟩ := bc6hModeNumber_two_bits (b % 32) (Nat.mod_lt b (by decide))
  rw [hfour] at hzero hone
  rw [bc6hModeNumber_mod]
  refine ⟨hzero, hone, bc6hModeNumber_reserved _, fun k hk => ⟨fun h => ?_, fun hk4 h => ?_⟩⟩
  · rw [h, bc6hModeNumber_two_subsets k hk]
  · rw [h, bc6hModeNumber_one_subset k hk4]

/-- A BC6H request whose block is decoded delivers the pixels: `exec_of_decodeFn` for the two codes. -/
theorem bc6h_delivers {d : Block} {s : State} (hT : UsesPrintedTables s) {f : Bool → Pixels}
    (h : ∀ signed, bc6hPixels Config.Tables.printed signed d = some (f signed)) :
    Delivers (.bc6hUfloat d) s (f false) ∧ Delivers (.bc6hSfloat d) s (f true) := by
  have htables : s.params.tables = Config.Tables.printed := hT
  rw [← htables] at h
  exact ⟨exec_of_decodeFn rfl (h false), exec_of_decodeFn rfl (h true)⟩

theorem bc6hPixels_of_none {T : Config.Tables} {d : Block} (h : bc6hMode T (byte d 0) = none) (signed : Bool) :
    bc6hPixels T signed d = some blackPixels := by
  rw [byte_eq_getElem d (by decide)] at h
  rw [bc6hPixels, h]

theorem bc6hPixels_of_some {T : Config.Tables} {d : Block} {m : Config.Bc6hMode} (h : bc6hMode T (byte d 0) = some m)
    (signed : Bool) : bc6hPixels T signed d = bc6hModeDecode T signed (b128 d) m := by
  rw [byte_eq_getElem d (by decide)] at h
  rw [bc6hPixels, h]

/-- Settles O46: a reserved pattern selects no mode. -/
theorem bc6hReservedModesAreBlack : Obligations.Bc6hReservedModesAreBlack := by
  intro d s hT hres
  have hnone : bc6hModeNumber Config.Tables.printed (byte d 0) = none :=
    bc6hModeNumber_mod _ ▸ bc6hModeNumber_reserved _ hres
  have hmode : bc6hMode Config.Tables.printed (byte d 0) = none := by rw [bc6hMode, hnone, Option.bind_none]
  exact bc6h_delivers (f := fun _ => blackPixels) hT (bc6hPixels_of_none hmode)

/-! The working ranges (46_bc6h R258, R259, R262, R263) -/

/-- A printed mode has the printed widths. -/
theorem bc6hWidths_of_mem {m : Config.Bc6hMode} (h : m ∈ Config.bc6hModes.toList) : Bc6hWidths m := by
  obtain ⟨k, hk⟩ := List.mem_iff_getElem?.mp h
  exact bc6hWidths_printed (k := k) (by rwa [Vector.getElem?_toList] at hk)

/-- With fewer than 16 bits, -32768 does not arise (46_bc6h R259). -/
theorem unqS_range {n : Nat} (h16 : n ≤ 16) {x : Int} (h0 : -2 ^ (n - 1) ≤ x) (hx : x < 2 ^ (n - 1)) :
    -32768 ≤ unqS x n ∧ unqS x n ≤ 32767 ∧ (n < 16 → -32767 ≤ unqS x n) := by
  obtain ⟨hmin, hmax⟩ := unqS_bounds h16 h0 hx
  simp only [unqMin, if_true] at hmin
  split at hmin <;> omega

theorem finS_of_nonneg {v : Int} (h : 0 ≤ v) : finS v = v.natAbs * 31 / 2 ^ 5 := by
  rw [finS, if_neg (by omega)]

/-- From -2 on downwards the scaled magnitude is not 0, and the sign bit is set. -/
theorem finS_of_lt_neg_one {v : Int} (h : v < -1) : finS v = 0x8000 + v.natAbs * 31 / 2 ^ 5 := by
  rw [finS, if_pos (by omega)]

/-- Settles O48, range by range. -/
theorem bc6hWorkingRanges : Obligations.Bc6hWorkingRanges := by
  refine ⟨fun m hm x h0 hx => ?_, fun m hm x h0 hx => ?_, fun v _ hv => finU_le hv, fun v h0 hv => ?_, fun v h0 hv => ?_,
    rfl, rfl⟩
  · have hw := bc6hWidths_of_mem hm
    exact unqU_bounds hw.one_le hw.le_16 h0 hx
  · exact unqS_range (bc6hWidths_of_mem hm).le_16 h0 hx
  · rw [finS_of_nonneg h0]
    omega
  · rw [finS_of_lt_neg_one hv]
    omega

end Sys2Proof.Proofs
end

section
/-! PROOFS. The indices of BC6H and BC7 as fields of the block: where each index of a stream stands (45_shared_tables R237). -/

namespace Sys2Proof.Proofs

open Sys2Proof Sys2Proof.Machine Sys2Proof.Claims Sys2Proof.Laws

/-- A forward extraction of `w` bits is the field of the block that starts there. -/
theorem bits128_eq_field {d : Block} {lo w v : Nat} (hw : 1 ≤ w) (h : bits128 (b128 d) lo (lo + w - 1) = some v) :
    v = field d lo w := by
  have hfits : lo + w - 1 ≤ 127 := by
    by_contra hout
    rw [bits128_none _ (.inr (by omega))] at h
    cases h
  have hwidth : lo + w - 1 - lo + 1 = w := by omega
  rw [bits128_forward _ (by omega) hfits, Option.some.injEq, slice, hwidth, b128_toNat_bytes] at h
  exact h.symm

/-- The `k`-th index read starts after the widths of those before it. -/
theorem readIndices_getElem {T : Config.Tables} {d : Block} {n ns part : Nat} (hn : 2 ≤ n) {ps : List Nat} {pos e : Nat}
    {idx : List Nat} (h : readIndices T (b128 d) n ns part ps pos = some (idx, e)) {k : Nat} (hk : k < ps.length) :
    idx.getD k 0 =
      field d (pos + ((ps.take k).map (indexWidth T n ns part)).sum) (indexWidth T n ns part ps[k]) := by
  induction ps generalizing pos idx k with
  | nil => exact absurd hk (Nat.not_lt_zero k)
  | cons p ps ih =>
    simp only [readIndices, Option.bind_eq_bind, Option.bind_eq_some_iff, Option.some.injEq, Prod.mk.injEq] at h
    obtain ⟨i, hi, ⟨is, e'⟩, hrest, rfl, rfl⟩ := h
    cases k with
    | zero =>
      have hw : 1 ≤ indexWidth T n ns part p := by
        rw [indexWidth]
        split <;> omega
      exact bits128_eq_field hw hi
    | succ k =>
      rw [List.getD_cons_succ, ih hrest (Nat.lt_of_succ_lt_succ hk), List.take_succ_cons, List.map_cons, List.sum_cons,
        Nat.add_assoc]
      rfl

/-- The stream's index of pixel `p` is the field at its place in the block. -/
theorem indexStream_getD {T : Config.Tables} {d : Block} {start n ns part e : Nat} (hn : 2 ≤ n) {idx : List Nat}
    (h : indexStream T (b128 d) start n ns part = some (idx, e)) (p : Fin 16) :
    idx.getD p 0 = indexOf T d start n ns part p := by
  have hp : p.val < (List.range 16).length := by simp
  rw [readIndices_getElem hn h hp, List.take_range, List.getElem_range, min_eq_left p.isLt.le]
  rfl

end Sys2Proof.Proofs
end

section
/-! PROOFS. The BC6H requests (46_bc6h R255 to R265): endpoints from the raw fields, and the block of a mode lane by lane. -/

namespace Sys2Proof.Proofs

open Sys2Proof Sys2Proof.Machine Sys2Proof.Claims Sys2Proof.Laws

/-! Endpoints from the raw fields (46_bc6h R255 to R257) -/

/-- Endpoint 0 is its raw field modulo `2^epBits`, in either format. -/
theorem bc6hBase_emod (signed : Bool) (m : Config.Bc6hMode) {raw0 : Nat} (h : raw0 < 2 ^ m.epBits) :
    bc6hBase signed m raw0 % 2 ^ m.epBits = raw0 := by
  have hlt : (raw0 : Int) < 2 ^ m.epBits := by exact_mod_cast h
  cases signed with
  | false => exact Int.emod_eq_of_lt (Int.natCast_nonneg raw0) hlt
  | true => exact (sext_emod m.epBits raw0).trans (by rw [Nat.mod_eq_of_lt h])

/-- The delta is added to the signed or to the unsigned base field alike: the sum wraps at the endpoint width. -/
theorem bc6hBase_add_emod (signed : Bool) (m : Config.Bc6hMode) {raw0 : Nat} (h : raw0 < 2 ^ m.epBits) (delta : Int) :
    (bc6hBase signed m raw0 + delta) % 2 ^ m.epBits = ((raw0 : Int) + delta) % 2 ^ m.epBits := by
  rw [← Int.emod_add_emod, bc6hBase_emod signed m h]

theorem bc6hBase_eq (signed : Bool) (m : Config.Bc6hMode) (raw : Nat → Channel → Nat) (c : Channel) :
    bc6hBase signed m (raw 0 c) = bc6hE signed m raw 0 c := by
  simp [bc6hBase, bc6hE]

theorem bc6hDelta_eq (signed : Bool) {m : Config.Bc6hMode} {raw : Nat → Channel → Nat} {c : Channel}
    (h : raw 0 c < 2 ^ m.epBits) {i : Nat} (hi : i ≠ 0) :
    bc6hDelta signed m c (raw 0 c) (raw i c) = bc6hE signed m raw i c := by
  rw [bc6hDelta, bc6hE, bc6hBase_add_emod signed m h]
  cases m.tr <;> simp [hi]

/-- The raw value of endpoint field `i`, `c` of a block. -/
def bc6hRaw (b : Word128) (m : Config.Bc6hMode) (i : Nat) (c : Channel) : Nat := (headerField b m (.ep i c)).getD 0

theorem headerField_eq_bc6hRaw (b : Word128) {m : Config.Bc6hMode} (hm : Bc6hFits m) (i : Nat) (c : Channel) :
    headerField b m (.ep i c) = some (bc6hRaw b m i c) := by
  obtain ⟨v, hv⟩ := headerField_some b hm (.ep i c)
  rw [bc6hRaw, hv, Option.getD_some]

/-- What a mode declares of its raw fields (46_bc6h R251, R253): their widths, and no partition number with one subset. -/
structure Bc6hDeclares (m : Config.Bc6hMode) : Prop where
  ep : ∀ i < 2 * m.ns, ∀ c ∈ [Channel.r, .g, .b], fieldMax m (.ep i c) < 2 ^ (if i = 0 then m.epBits else dBits m c)
  part : fieldMax m .part < 32
  part_one : m.ns = 1 → fieldMax m .part = 0
  subsets : 1 ≤ m.ns

/-- Every printed BC6H mode keeps to its declaration. -/
theorem bc6hDeclares_printed {k : Nat} {m : Config.Bc6hMode} (h : Config.bc6hModes[k]? = some m) : Bc6hDeclares m := by
  have hdecl : ∀ k : Fin 14, Bc6hDeclares Config.bc6hModes[k] := by
    intro k
    fin_cases k <;> constructor <;> decide
  obtain ⟨hk, rfl⟩ := Vector.getElem?_eq_some_iff.mp h
  exact hdecl ⟨k, hk⟩

theorem bc6hRaw_lt (b : Word128) {m : Config.Bc6hMode} (hfits : Bc6hFits m) (hdecl : Bc6hDeclares m) {i : Nat}
    (hi : i < 2 * m.ns) (c : Channel) : bc6hRaw b m i c < 2 ^ (if i = 0 then m.epBits else dBits m c) := by
  have hc : c ∈ [Channel.r, .g, .b] := by cases c <;> decide
  exact (headerField_le (headerField_eq_bc6hRaw b hfits i c)).trans_lt (hdecl.ep i hi c hc)

theorem bc6hEndpoint_eq (signed : Bool) (b : Word128) {m : Config.Bc6hMode} (hfits : Bc6hFits m) (hdecl : Bc6hDeclares m)
    (i : Nat) (c : Channel) : bc6hEndpoint signed b m i c = some (bc6hE signed m (bc6hRaw b m) i c) := by
  have hbase : bc6hRaw b m 0 c < 2 ^ m.epBits := bc6hRaw_lt b hfits hdecl (Nat.mul_pos two_pos hdecl.subsets) c
  simp only [bc6hEndpoint, headerField_eq_bc6hRaw b hfits, Option.bind_eq_bind, Option.bind_some]
  split
  · next hi => rw [hi, bc6hBase_eq]
  · next hi => rw [bc6hDelta_eq signed hbase hi]

/-- The unquantised endpoint `i` from the raw fields (46_bc6h R258, R259). -/
def unqEndpoint (signed : Bool) (m : Config.Bc6hMode) (raw : Nat → Channel → Nat) (i : Nat) : Rgb :=
  ⟨unq signed (bc6hE signed m raw i .r) m.epBits, unq signed (bc6hE signed m raw i .g) m.epBits,
    unq signed (bc6hE signed m raw i .b) m.epBits⟩

theorem bc6hUnq_eq (signed : Bool) (b : Word128) {m : Config.Bc6hMode} (hfits : Bc6hFits m) (hdecl : Bc6hDeclares m) :
    bc6hUnq signed b m = fun i => some (unqEndpoint signed m (bc6hRaw b m) i) := by
  funext i
  simp only [bc6hUnq, bc6hEndpoint_eq signed b hfits hdecl, Option.bind_eq_bind, Option.bind_some]
  rfl

/-! Pixels -/

theorem getD_map_range {α : Type} (f : Nat → α) (d : α) {i n : Nat} (h : i < n) : ((List.range n).map f).getD i d = f i := by
  simp [h]

/-- A block of a mode that is not reserved, lane by lane. -/
theorem bc6hModeDecode_eq (signed : Bool) (d : Block) {m : Config.Bc6hMode} (hfits : Bc6hFits m) (hdecl : Bc6hDeclares m)
    {part : Nat} (hpart : headerField (b128 d) m .part = some part) :
    bc6hModeDecode Config.Tables.printed signed (b128 d) m = some (pixels fun p =>
      ⟨bc6hLane Config.Tables.printed signed m (bc6hRaw (b128 d) m) part d p .r,
        bc6hLane Config.Tables.printed signed m (bc6hRaw (b128 d) m) part d p .g,
        bc6hLane Config.Tables.printed signed m (bc6hRaw (b128 d) m) part d p .b, 0⟩) := by
  obtain ⟨idx, hidx, -⟩ := indexStream_printed (b128 d) hfits.width (oneAnchorEach_of_headerField hfits hpart) hfits.stream
  have hus : (List.range (2 * m.ns)).mapM (bc6hUnq signed (b128 d) m)
      = some ((List.range (2 * m.ns)).map (unqEndpoint signed m (bc6hRaw (b128 d) m))) := by
    rw [bc6hUnq_eq signed _ hfits hdecl]
    exact List.mapM_pure
  simp only [bc6hModeDecode, hus, hpart, hidx, Option.bind_eq_bind, Option.bind_some, Option.some.injEq]
  congr 1
  funext p
  have hsub := subset_lt Config.Tables.printed hdecl.subsets part p.val
  rw [getD_map_range _ _ (by omega), getD_map_range _ _ (by omega), indexStream_getD hfits.width hidx p]
  rfl

/-- Settles O47: `bc6hModeDecode_eq` for both formats, with the raw fields of the mode's layout. -/
theorem bc6hRequestsFromTheirFields : Obligations.Bc6hRequestsFromTheirFields := by
  intro d s m hT hmode
  obtain ⟨k, -, hk⟩ := bc6hMode_row hmode
  have hfits : Bc6hFits m := bc6hFits_printed hk
  have hdecl : Bc6hDeclares m := bc6hDeclares_printed hk
  obtain ⟨part, hpart⟩ := headerField_some (b128 d) hfits .part
  have hle := headerField_le hpart
  have hpixels := fun signed => (bc6hPixels_of_some hmode signed).trans (bc6hModeDecode_eq signed d hfits hdecl hpart)
  exact ⟨bc6hRaw (b128 d) m, part,
    fun i hi c => ⟨headerField_eq_bc6hRaw _ hfits i c, bc6hRaw_lt _ hfits hdecl hi c⟩,
    hpart, hle.trans_lt hdecl.part, fun h1 => Nat.le_zero.mp (hdecl.part_one h1 ▸ hle), bc6h_delivers hT hpixels⟩

end Sys2Proof.Proofs
end

section
/-! PROOFS. The BC6H layouts (46_bc6h R253, R254): every header bit in one cell, every field bit where the second transcription
has it, and the value of a field bit by bit. -/

namespace Sys2Proof.Proofs

open Sys2Proof Sys2Proof.Machine Sys2Proof.Claims Sys2Proof.Laws

/-! The value of a header field, bit by bit (46_bc6h R253) -/

/-- Numbers without a common bit add without a carry. -/
theorem testBit_add_of_disjoint {x y : Nat} (h : ∀ i, x.testBit i = true → y.testBit i = false) (i : Nat) :
    (x + y).testBit i = (x.testBit i || y.testBit i) := by
  have hx : x < 2 ^ (x + y) := (Nat.le_add_right x y).trans_lt Nat.lt_two_pow_self
  have hy : y < 2 ^ (x + y) := (Nat.le_add_left y x).trans_lt Nat.lt_two_pow_self
  have hand : BitVec.ofNatLT x hx &&& BitVec.ofNatLT y hy = 0#(x + y) := by
    refine BitVec.eq_of_getLsbD_eq fun j _ => ?_
    cases hj : x.testBit j <;> simp [hj, h j]
  have hsum := BitVec.toNat_add_of_and_eq_zero hand
  rw [BitVec.add_eq_or_of_and_eq_zero _ _ hand] at hsum
  change x ||| y = x + y at hsum
  rw [← hsum, Nat.testBit_or]

/-- The field bits a cell names, ascending or descending. -/
def CellNames (c : Config.Cell) (i : Nat) : Prop := min c.a c.b ≤ i ∧ i ≤ max c.a c.b

/-- The block bit where a cell has bit `i` of its field. -/
def cellBlockBit (c : Config.Cell) (i : Nat) : Nat := if c.b ≤ c.a then c.lo + (i - c.b) else c.lo + (c.b - i)

/-- A cell inside the block that is as wide as the field bits it names. -/
structure CellOk (c : Config.Cell) : Prop where
  lo_le : c.lo ≤ c.hi
  hi_le : c.hi ≤ 127
  width : c.hi - c.lo = max c.a c.b - min c.a c.b

/-- No field bit stands in both cells. -/
abbrev CellsApart (c c' : Config.Cell) : Prop := max c.a c.b < min c'.a c'.b ∨ max c'.a c'.b < min c.a c.b

theorem CellsApart.not_names {c c' : Config.Cell} (h : CellsApart c c') {i : Nat} (hi : CellNames c i) : ¬ CellNames c' i := by
  obtain ⟨hmin, hmax⟩ := hi
  rintro ⟨hmin', hmax'⟩
  omega

/-- `v` has the block bits of the cells at the field bits they name, and no other bit. -/
structure ReadsCells (b : Word128) (cs : List Config.Cell) (v : Nat) : Prop where
  named : ∀ c ∈ cs, ∀ i, CellNames c i → v.testBit i = b.getLsbD (cellBlockBit c i)
  unnamed : ∀ i, (∀ c ∈ cs, ¬ CellNames c i) → v.testBit i = false

/-- The bits of a cell before they are shifted to their place, lowest field bit first; a descending cell is read reversed. -/
theorem cellValue_eq_mul {b : Word128} {c : Config.Cell} (hc : CellOk c) {v : Nat} (h : cellValue b c = some v) :
    ∃ x, v = x * 2 ^ min c.a c.b ∧ x < 2 ^ (max c.a c.b - min c.a c.b + 1) ∧
      ∀ j ≤ max c.a c.b - min c.a c.b, x.testBit j = b.getLsbD (cellBlockBit c (min c.a c.b + j)) := by
  obtain ⟨hlo, hhi, hwidth⟩ := hc
  rw [cellValue] at h
  simp only [← hwidth, cellBlockBit]
  split at h
  · next hab =>
    rw [bits128_forward b hlo hhi] at h
    refine ⟨slice b.toNat c.lo c.hi, ?_, slice_lt .., fun j hj => ?_⟩
    · rw [min_eq_right hab]
      exact (Option.some.inj h).symm
    · rw [if_pos hab, min_eq_right hab, slice_testBit _ hj, Nat.add_sub_cancel_left, BitVec.testBit_toNat]
  · next hab =>
    have hlt : c.lo < c.hi := by omega
    rw [bits128_reversed b hlt hhi] at h
    refine ⟨revBits (c.hi - c.lo + 1) (slice b.toNat c.lo c.hi), ?_, revBits_lt .., fun j hj => ?_⟩
    · rw [min_eq_left (by omega)]
      exact (Option.some.inj h).symm
    · have hplace : c.lo + (c.hi - c.lo + 1 - 1 - j) = c.lo + (c.b - (min c.a c.b + j)) := by omega
      rw [if_neg hab, revBits_testBit _ (by omega), slice_testBit _ (by omega), hplace, BitVec.testBit_toNat]

theorem cellValue_reads {b : Word128} {c : Config.Cell} (hc : CellOk c) {v : Nat} (h : cellValue b c = some v) :
    ReadsCells b [c] v := by
  obtain ⟨x, rfl, hlt, hbits⟩ := cellValue_eq_mul hc h
  constructor
  · intro c' hc' i hi
    obtain rfl := List.mem_singleton.mp hc'
    obtain ⟨hmin, hmax⟩ := hi
    rw [Nat.testBit_mul_two_pow, decide_eq_true hmin, Bool.true_and, hbits _ (by omega), Nat.add_sub_cancel' hmin]
  · intro i hi
    have hout : ¬ CellNames c i := hi c List.mem_cons_self
    rw [Nat.testBit_mul_two_pow]
    by_cases hmin : min c.a c.b ≤ i
    · have hmax : max c.a c.b < i := not_le.mp fun hle => hout ⟨hmin, hle⟩
      have hpow : x < 2 ^ (i - min c.a c.b) := hlt.trans_le (Nat.pow_le_pow_right (by decide) (by omega))
      rw [Nat.testBit_lt_two_pow hpow, Bool.and_false]
    · rw [decide_eq_false hmin, Bool.false_and]

/-- The value of one more cell, apart from the others, adds its bits to theirs. -/
theorem ReadsCells.cons {b : Word128} {c : Config.Cell} {cs : List Config.Cell} {x y : Nat} (hx : ReadsCells b [c] x)
    (hy : ReadsCells b cs y) (hapart : ∀ c' ∈ cs, CellsApart c c') : ReadsCells b (c :: cs) (x + y) := by
  have hx0 : ∀ i, ¬ CellNames c i → x.testBit i = false := fun i hi =>
    hx.unnamed i fun c' hc' => List.mem_singleton.mp hc' ▸ hi
  have hy0 : ∀ i, CellNames c i → y.testBit i = false := fun i hi =>
    hy.unnamed i fun c' hc' => (hapart c' hc').not_names hi
  have hadd := testBit_add_of_disjoint fun i hi =>
    hy0 i (by_contra fun hno => absurd (hx0 i hno) (ne_false_of_eq_true hi))
  constructor
  · intro c' hc' i hi
    rw [hadd]
    obtain rfl | htail := List.mem_cons.mp hc'
    · rw [hx.named _ List.mem_cons_self i hi, hy0 i hi, Bool.or_false]
    · rw [hx0 i fun hno => (hapart c' htail).not_names hno hi, hy.named c' htail i hi, Bool.false_or]
  · intro i hi
    obtain ⟨hhead, htail⟩ := List.forall_mem_cons.mp hi
    rw [hadd, hx0 i hhead, hy.unnamed i htail, Bool.or_false]

theorem sumCells_reads {b : Word128} {cs : List Config.Cell} (hok : ∀ c ∈ cs, CellOk c) (hapart : cs.Pairwise CellsApart)
    {v : Nat} (h : sumCells b cs = some v) : ReadsCells b cs v := by
  induction cs generalizing v with
  | nil =>
    cases h
    exact ⟨fun c hc => absurd hc List.not_mem_nil, fun i _ => Nat.zero_testBit i⟩
  | cons c cs ih =>
    simp only [sumCells, Option.bind_eq_bind, Option.bind_eq_some_iff, Option.some.injEq] at h
    obtain ⟨x, hx, y, hy, rfl⟩ := h
    obtain ⟨hokc, hokcs⟩ := List.forall_mem_cons.mp hok
    obtain ⟨hapartc, hapartcs⟩ := List.pairwise_cons.mp hapart
    exact (cellValue_reads hokc hx).cons (ih hokcs hapartcs hy) hapartc

/-- A mode whose fields can be read bit by bit: its cells fit, and no bit of a field stands in two of them. -/
structure Bc6hReadable (m : Config.Bc6hMode) : Prop where
  ok : ∀ c ∈ m.cells, CellOk c
  apart : m.cells.Pairwise fun c c' => c.field = c'.field → CellsApart c c'

/-- A header field has the block bits of the cells that name it. -/
theorem headerField_reads {b : Word128} {m : Config.Bc6hMode} (hm : Bc6hReadable m) {f : Config.HeaderField} {v : Nat}
    (h : headerField b m f = some v) : ReadsCells b (m.cells.filter fun c => c.field = f) v := by
  have hfield : ∀ c ∈ m.cells.filter (fun c => c.field = f), c.field = f := fun c hc =>
    of_decide_eq_true (List.mem_filter.mp hc).2
  refine sumCells_reads (fun c hc => hm.ok c (List.mem_of_mem_filter hc)) ?_ h
  exact (hm.apart.filter _).imp_of_mem fun hc hc' hapart => hapart ((hfield _ hc).trans (hfield _ hc').symm)

/-- The field bit that a block bit of a cell is. -/
def cellFieldBit (c : Config.Cell) (k : Nat) : Nat := if c.b ≤ c.a then c.b + (k - c.lo) else c.b - (k - c.lo)

/-- A cell names the field bits of its block bits. -/
theorem cellNames_cellFieldBit {c : Config.Cell} (hc : CellOk c) {k : Nat} (hlo : c.lo ≤ k) (hhi : k ≤ c.hi) :
    CellNames c (cellFieldBit c k) := by
  have hwidth := hc.width
  rw [CellNames, cellFieldBit]
  split <;> omega

/-- From a block bit to its field bit and back. -/
theorem cellBlockBit_cellFieldBit {c : Config.Cell} (hc : CellOk c) {k : Nat} (hlo : c.lo ≤ k) (hhi : k ≤ c.hi) :
    cellBlockBit c (cellFieldBit c k) = k := by
  have hwidth := hc.width
  rw [cellBlockBit, cellFieldBit]
  split <;> omega

/-- The cell that gives a block bit its field bit. -/
theorem cell_of_fieldBitAt {m : Config.Bc6hMode} {k : Nat} {f : Config.HeaderField} {i : Nat} (h : fieldBitAt m k = some (f, i)) :
    ∃ c ∈ m.cells, c.field = f ∧ (c.lo ≤ k ∧ k ≤ c.hi) ∧ i = cellFieldBit c k := by
  obtain ⟨c, hc, hfi⟩ := Option.map_eq_some_iff.mp h
  obtain ⟨rfl, rfl⟩ := Prod.mk.inj hfi
  have hrange := List.find?_some hc
  exact ⟨c, List.mem_of_find?_eq_some hc, rfl, of_decide_eq_true hrange, rfl⟩

/-- Bit `i` of a header field is the block bit that the layout names as bit `i`. -/
theorem headerField_testBit {b : Word128} {m : Config.Bc6hMode} (hm : Bc6hReadable m) {f : Config.HeaderField} {v k i : Nat}
    (h : headerField b m f = some v) (hk : fieldBitAt m k = some (f, i)) : v.testBit i = b.getLsbD k := by
  obtain ⟨c, hc, hf, ⟨hlo, hhi⟩, rfl⟩ := cell_of_fieldBitAt hk
  have hok := hm.ok c hc
  have hmem : c ∈ m.cells.filter fun c => c.field = f := List.mem_filter.mpr ⟨hc, decide_eq_true hf⟩
  rw [(headerField_reads hm h).named c hmem _ (cellNames_cellFieldBit hok hlo hhi), cellBlockBit_cellFieldBit hok hlo hhi]

/-! The printed layouts (46_bc6h R253, R254) -/

/-- The end of the mode field, where the header's cells start (46_bc6h R250). -/
def headerStart (m : Nat) : Nat := if m < 2 then 2 else 5

theorem header_bits_in_one_cell : ∀ m : Fin 14, ∀ k < bc6hStreamStart Config.bc6hModes[m], headerStart m ≤ k →
    (Config.bc6hModes[m].cells.filter fun c => c.lo ≤ k ∧ k ≤ c.hi).length = 1 := by
  decide

theorem cells_in_header : ∀ m : Fin 14, ∀ c ∈ Config.bc6hModes[m].cells, headerStart m ≤ c.lo ∧ c.lo ≤ c.hi ∧
    c.hi < bc6hStreamStart Config.bc6hModes[m] ∧ c.hi - c.lo = max c.a c.b - min c.a c.b := by
  decide

theorem endpoint_bits_in_one_cell : ∀ m : Fin 14, ∀ e < 2 * Config.bc6hModes[m].ns, ∀ ch ∈ [Channel.r, .g, .b], ∀ k < 16,
    (Config.bc6hModes[m].cells.filter fun c => c.field = .ep e ch ∧ min c.a c.b ≤ k ∧ k ≤ max c.a c.b).length =
      if k < (if e = 0 then Config.bc6hModes[m].epBits else dBits Config.bc6hModes[m] ch) then 1 else 0 := by
  decide

theorem part_bits_in_one_cell : ∀ m : Fin 14, ∀ k < 8,
    (Config.bc6hModes[m].cells.filter fun c => c.field = .part ∧ min c.a c.b ≤ k ∧ k ≤ max c.a c.b).length =
      if Config.bc6hModes[m].ns = 2 ∧ k < 5 then 1 else 0 := by
  decide

theorem two_subsets_iff : ∀ m : Fin 14, Config.bc6hModes[m].ns = 2 ↔ m.val < 10 := by decide

theorem cells_apart : ∀ m : Fin 14,
    Config.bc6hModes[m].cells.Pairwise fun c c' => c.field = c'.field → CellsApart c c' := by
  decide

theorem bc6hStreamStart_le (m : Config.Bc6hMode) : bc6hStreamStart m ≤ 82 := by
  rw [bc6hStreamStart]
  split <;> decide

theorem bc6hReadable_printed (m : Fin 14) : Bc6hReadable Config.bc6hModes[m] := by
  refine ⟨fun c hc => ?_, cells_apart m⟩
  obtain ⟨-, hlo, hhi, hwidth⟩ := cells_in_header m c hc
  have hstart := bc6hStreamStart_le Config.bc6hModes[m]
  exact ⟨hlo, by omega, hwidth⟩

/-! The cross-check of the layouts (46_bc6h R254) -/

/-- The low bits of the two-subset modes' endpoints 2 and 3, and their partition number. -/
theorem two_subset_common_bits : ∀ m : Fin 14, m.val < 10 →
    (∀ i < 4, fieldBitAt Config.bc6hModes[m] (41 + i) = some (.ep 2 .g, i) ∧
      fieldBitAt Config.bc6hModes[m] (51 + i) = some (.ep 3 .g, i) ∧
      fieldBitAt Config.bc6hModes[m] (61 + i) = some (.ep 2 .b, i)) ∧
    ∀ i < 5, fieldBitAt Config.bc6hModes[m] (77 + i) = some (.part, i) := by
  decide

/-- Where the deltas of the two-subset modes start. -/
theorem two_subset_delta_starts : ∀ m : Fin 14, m.val < 10 →
    fieldBitAt Config.bc6hModes[m] 35 = some (.ep 1 .r, 0) ∧ fieldBitAt Config.bc6hModes[m] 45 = some (.ep 1 .g, 0) ∧
    fieldBitAt Config.bc6hModes[m] 55 = some (.ep 1 .b, 0) ∧ fieldBitAt Config.bc6hModes[m] 65 = some (.ep 2 .r, 0) ∧
    fieldBitAt Config.bc6hModes[m] 71 = some (.ep 3 .r, 0) := by
  decide

/-- Where endpoint 0 starts in the modes with a mode field of five bits. -/
theorem endpoint_zero_starts : ∀ m : Fin 14, 2 ≤ m.val →
    fieldBitAt Config.bc6hModes[m] 5 = some (.ep 0 .r, 0) ∧ fieldBitAt Config.bc6hModes[m] 15 = some (.ep 0 .g, 0) ∧
    fieldBitAt Config.bc6hModes[m] 25 = some (.ep 0 .b, 0) := by
  decide

/-- The descending bits of m12. -/
theorem m12_descends : ∀ m : Fin 14, m.val = 12 → ∀ j < 2,
    fieldBitAt Config.bc6hModes[m] (43 + j) = some (.ep 0 .r, 11 - j) ∧
    fieldBitAt Config.bc6hModes[m] (53 + j) = some (.ep 0 .g, 11 - j) ∧
    fieldBitAt Config.bc6hModes[m] (63 + j) = some (.ep 0 .b, 11 - j) := by
  decide

/-- The descending bits of m13. -/
theorem m13_descends : ∀ m : Fin 14, m.val = 13 → ∀ j < 6,
    fieldBitAt Config.bc6hModes[m] (39 + j) = some (.ep 0 .r, 15 - j) ∧
    fieldBitAt Config.bc6hModes[m] (49 + j) = some (.ep 0 .g, 15 - j) ∧
    fieldBitAt Config.bc6hModes[m] (59 + j) = some (.ep 0 .b, 15 - j) := by
  decide

/-! The layouts against their second transcription (46_bc6h R254) -/

/-- The header fields that some mode has. -/
def headerFields : List Config.HeaderField :=
  .part :: ([0, 1, 2, 3].flatMap fun e => [.ep e .r, .ep e .g, .ep e .b])

theorem mem_headerFields_of_bitsOf {q : Bc6hPositions} {f : Config.HeaderField} {k : Nat} (h : k ∈ q.bitsOf f) :
    f ∈ headerFields := by
  match f with
  | .part => decide
  | .ep 0 c | .ep 1 c | .ep 2 c | .ep 3 c => cases c <;> decide
  | .ep (e + 4) c => cases c <;> exact absurd h List.not_mem_nil

/-- Every field bit of a layout stands where the transcription has it. -/
theorem layout_bits_in_positions : ∀ m : Fin 14, ∀ q ∈ bc6hPositions[m.val]?, ∀ k < 82,
    ∀ x ∈ fieldBitAt Config.bc6hModes[m] k, (q.bitsOf x.1)[x.2]? = some k := by
  decide

/-- Every field bit of the transcription stands where the layout has it. -/
theorem position_bits_in_layout : ∀ m : Fin 14, ∀ q ∈ bc6hPositions[m.val]?, ∀ f ∈ headerFields,
    ∀ x ∈ (q.bitsOf f).zipIdx, fieldBitAt Config.bc6hModes[m] x.1 = some (f, x.2) := by
  decide

theorem fieldBitAt_iff_positions (m : Fin 14) {q : Bc6hPositions} (hq : bc6hPositions[m.val]? = some q)
    (f : Config.HeaderField) (k i : Nat) :
    fieldBitAt Config.bc6hModes[m] k = some (f, i) ↔ (q.bitsOf f)[i]? = some k := by
  constructor
  · intro h
    obtain ⟨c, hc, -, ⟨-, hhi⟩, -⟩ := cell_of_fieldBitAt h
    obtain ⟨-, -, hend, -⟩ := cells_in_header m c hc
    have hstart := bc6hStreamStart_le Config.bc6hModes[m]
    exact layout_bits_in_positions m q hq k (by omega) (f, i) h
  · intro h
    have hf := mem_headerFields_of_bitsOf (List.mem_of_getElem? h)
    exact position_bits_in_layout m q hq f hf (k, i) (List.mem_zipIdx_iff_getElem?.mpr h)

/-- Settles O45, clause by clause. -/
theorem bc6hLayoutsCoverTheirHeaders : Obligations.Bc6hLayoutsCoverTheirHeaders := by
  refine ⟨rfl, fun m _ md hmd q hq => ?_, fun m _ md hmd => ?_⟩
  · obtain ⟨hm, rfl⟩ := Vector.getElem?_eq_some_iff.mp hmd
    exact fieldBitAt_iff_positions ⟨m, hm⟩ hq
  · obtain ⟨hm, rfl⟩ := Vector.getElem?_eq_some_iff.mp hmd
    let row : Fin 14 := ⟨m, hm⟩
    refine ⟨fun k hlo hhi => header_bits_in_one_cell row k hhi hlo, cells_in_header row, endpoint_bits_in_one_cell row,
      part_bits_in_one_cell row, two_subsets_iff row, fun h => ?_, endpoint_zero_starts row, m12_descends row,
      m13_descends row, fun b f v k i => headerField_testBit (bc6hReadable_printed row)⟩
    obtain ⟨hendpoints, hpart⟩ := two_subset_common_bits row h
    exact ⟨hendpoints, hpart, two_subset_delta_starts row h⟩

end Sys2Proof.Proofs
end

section
/-! PROOFS. The fields of a BC7 block (47_bc7 R292 to R295, R297): the positions that the modes declare are the printed ones, and
fields, P bits and endpoints are read there. -/

namespace Sys2Proof.Proofs

open Sys2Proof Sys2Proof.Machine Sys2Proof.Claims Sys2Proof.Laws

/-! The printed positions (47_bc7 R293) -/

/-- Row `q` of the position table is where mode `m` has its fields, for the fields it has; and the mode uses up the block. -/
structure Bc7Agrees (m : Nat) (c : Config.Bc7Mode) (q : Bc7Positions) : Prop where
  part : c.pb ≠ 0 → partAt m = q.part
  rot : c.rot ≠ 0 → rotAt m c = q.rot
  isel : c.isel ≠ 0 → iselAt m c = q.isel
  red : colourAt m c 0 0 = q.r
  green : colourAt m c 1 0 = q.g
  blue : colourAt m c 2 0 = q.b
  alpha : c.ab ≠ 0 → alphaAt m c 0 = q.a
  pBits : c.p ≠ .none → pAt m c 0 = q.p
  stream1 : streamAt m c = q.stream1
  stream2 : c.n2 ≠ 0 → q.stream1 + (16 * c.n1 - 1) = q.stream2
  size : (m + 1) + c.pb + c.rot + c.isel + 2 * c.ns * (3 * c.cb + c.ab) + pCount c + (16 * c.n1 - c.ns)
    + (if c.n2 = 0 then 0 else 16 * c.n2 - 1) = 128

/-- The two tables agree row by row. -/
theorem bc7Agrees_printed {m : Nat} {c : Config.Bc7Mode} {q : Bc7Positions} (hc : Config.bc7Modes[m]? = some c)
    (hq : bc7Positions[m]? = some q) : Bc7Agrees m c q := by
  have hrows : ∀ m : Fin 8, Bc7Agrees m Config.bc7Modes[m] bc7Positions[m] := by
    intro m
    fin_cases m <;> constructor <;> decide
  obtain ⟨hm, rfl⟩ := Vector.getElem?_eq_some_iff.mp hc
  obtain ⟨-, rfl⟩ := List.getElem?_eq_some_iff.mp hq
  exact hrows ⟨m, hm⟩

/-- Settles O50: the clauses of `Bc7Agrees`. -/
theorem bc7FieldPositions : Obligations.Bc7FieldPositions := by
  refine ⟨rfl, fun m _ c hc q hq => ?_⟩
  have h := bc7Agrees_printed hc hq
  exact ⟨h.part, h.rot, h.isel, h.red, h.green, h.blue, h.alpha, h.pBits, h.stream1, h.stream2, h.size⟩

/-! Fields -/

theorem field_zero_width (d : Block) (lo : Nat) : field d lo 0 = 0 := Nat.mod_one _

/-- Where a field stands matters only if it has bits. -/
theorem field_congr (d : Block) {lo lo' w : Nat} (h : w ≠ 0 → lo = lo') : field d lo w = field d lo' w := by
  by_cases hw : w = 0
  · rw [hw, field_zero_width, field_zero_width]
  · rw [h hw]

theorem bc7Field_eq_field (d : Block) {start w : Nat} (h : start + w ≤ 128) :
    bc7Field (b128 d) start w = some (field d start w) := by
  obtain ⟨v, hv, -⟩ := bc7Field_some (b128 d) h
  rw [hv]
  rw [bc7Field] at hv
  split at hv
  · next hw => rw [← Option.some.inj hv, hw, field_zero_width]
  · next hw => rw [bits128_eq_field (by omega) hv]

/-- A field that some modes have, then with `k` bits: rotation and index selection. -/
theorem bc7Field_optional (d : Block) {start lo w k : Nat} (h : start + w ≤ 128) (hw : w = 0 ∨ w = k)
    (hlo : w ≠ 0 → start = lo) : bc7Field (b128 d) start w = some (if w = 0 then 0 else field d lo k) := by
  rw [bc7Field_eq_field d h, field_congr d hlo]
  split
  · next h0 => rw [h0, field_zero_width]
  · next h0 => rw [hw.resolve_left h0]

/-! P bits and endpoints (47_bc7 R294, R295) -/

/-- The fields of one channel follow each other, endpoint by endpoint. -/
theorem colourAt_eq_add (m : Nat) (c : Config.Bc7Mode) (k e : Nat) : colourAt m c k e = colourAt m c k 0 + e * c.cb := by
  rw [colourAt, colourAt]
  ring

theorem alphaAt_eq_add (m : Nat) (c : Config.Bc7Mode) (e : Nat) : alphaAt m c e = alphaAt m c 0 + e * c.ab := by
  rw [alphaAt, alphaAt, Nat.zero_mul, Nat.add_zero]

theorem pAt_eq_add (m : Nat) (c : Config.Bc7Mode) (j : Nat) : pAt m c j = pAt m c 0 + j := rfl

section
variable {m : Nat} {c : Config.Bc7Mode} {q : Bc7Positions} {e : Nat}

theorem pBit_eq (d : Block) (hfits : Bc7Fits m c) (hq : Bc7Agrees m c q) (he : e < 2 * c.ns) :
    pBit (b128 d) m c e = some (bc7P d c q e) := by
  cases hp : c.p with
  | none => simp only [pBit, bc7P, hp]
  | perEndpoint =>
    simp only [pBit, bc7P, hp]
    rw [bc7Field_eq_field d (hfits.pBits e he), pAt_eq_add, hq.pBits (by rw [hp]; decide)]
  | perSubset =>
    simp only [pBit, bc7P, hp]
    rw [bc7Field_eq_field d (hfits.pBits (e / 2) (by omega)), pAt_eq_add, hq.pBits (by rw [hp]; decide)]

theorem bc7Endpoint_eq (d : Block) (hfits : Bc7Fits m c) (hq : Bc7Agrees m c q) (he : e < 2 * c.ns) :
    bc7Endpoint (b128 d) m c e = some (bc7E d c q e) := by
  have hred : bc7Field (b128 d) (colourAt m c 0 e) c.cb = some (field d (q.r + e * c.cb) c.cb) := by
    rw [bc7Field_eq_field d (hfits.colour 0 (by decide) e he), colourAt_eq_add, hq.red]
  have hgreen : bc7Field (b128 d) (colourAt m c 1 e) c.cb = some (field d (q.g + e * c.cb) c.cb) := by
    rw [bc7Field_eq_field d (hfits.colour 1 (by decide) e he), colourAt_eq_add, hq.green]
  have hblue : bc7Field (b128 d) (colourAt m c 2 e) c.cb = some (field d (q.b + e * c.cb) c.cb) := by
    rw [bc7Field_eq_field d (hfits.colour 2 (by decide) e he), colourAt_eq_add, hq.blue]
  have halpha : bc7Field (b128 d) (alphaAt m c e) c.ab = some (field d (q.a + e * c.ab) c.ab) := by
    rw [bc7Field_eq_field d (hfits.alpha e he), alphaAt_eq_add]
    exact congrArg some (field_congr d fun hab => by rw [hq.alpha hab])
  simp only [bc7Endpoint, hred, hgreen, hblue, halpha, pBit_eq d hfits hq he, Option.bind_eq_bind, Option.bind_some]
  rfl

end

end Sys2Proof.Proofs
end

section
/-! PROOFS. The BC7 requests (47_bc7 R290, R291, R299 to R304, R309): mode selection, the block of a mode pixel by pixel, the
invalid block, and which modes are opaque. -/

namespace Sys2Proof.Proofs

open Sys2Proof Sys2Proof.Machine Sys2Proof.Safety Sys2Proof.Claims Sys2Proof.Laws

/-! Mode selection (47_bc7 R290) -/

/-- The low `m + 1` bits of the first byte are `m` zeros below a one. -/
theorem testBit_of_inMode {d : Block} {m : Nat} (h : Bc7InMode d m) {i : Nat} (hi : i ≤ m) :
    (byte d 0).testBit i = decide (m = i) := by
  have hlow : (byte d 0 % 2 ^ (m + 1)).testBit i = (byte d 0).testBit i := by
    rw [Nat.testBit_mod_two_pow, decide_eq_true (Nat.lt_succ_of_le hi), Bool.true_and]
  rw [← hlow, h, Nat.testBit_two_pow]

theorem bc7ModeNumber_of_inMode {d : Block} {m : Nat} (hm : m < 8) (h : Bc7InMode d m) :
    bc7ModeNumber (byte d 0) = some m := by
  refine List.find?_range_eq_some.mpr ⟨?_, List.mem_range.mpr hm, fun j hj => ?_⟩
  · rw [testBit_of_inMode h le_rfl, decide_eq_true rfl]
  · rw [testBit_of_inMode h hj.le, decide_eq_false hj.ne', Bool.not_false]

theorem bc7Pixels_of_mode {T : Config.Tables} {d : Block} {m : Nat} {c : Config.Bc7Mode}
    (hm : bc7ModeNumber (byte d 0) = some m) (hc : T.bc7Modes[m]? = some c) :
    bc7Pixels T d = bc7ModeDecode T (b128 d) m c := by
  rw [byte_eq_getElem d (by decide)] at hm
  rw [bc7Pixels, hm]
  change T.bc7Modes[m]?.bind _ = _
  rw [hc, Option.bind_some]

theorem bc7Pixels_of_zero {d : Block} (h : byte d 0 = 0) (T : Config.Tables) : bc7Pixels T d = some blackPixels := by
  have hnone : bc7ModeNumber d[0].toNat = none := by
    rw [← byte_eq_getElem d (by decide), h]
    decide
  rw [bc7Pixels, hnone]

/-- A BC7 request whose block is decoded delivers the pixels: `exec_of_decodeFn` for the two codes. -/
theorem bc7_delivers {d : Block} {s : State} {px : Pixels} (h : bc7Pixels s.params.tables d = some px) :
    Delivers (.bc7Unorm d) s px ∧ Delivers (.bc7Srgb d) s px :=
  ⟨exec_of_decodeFn rfl h, exec_of_decodeFn rfl h⟩

/-- Settles O49: without a bit in the first byte no mode is selected. -/
theorem bc7InvalidBlocksAreTransparent : Obligations.Bc7InvalidBlocksAreTransparent :=
  fun _ _ h => bc7_delivers (bc7Pixels_of_zero h _)

/-! The block of a mode (47_bc7 R299 to R303) -/

/-- A list of readings answers the list of their results. -/
theorem mapM_eq_map {α β : Type} {f : α → Option β} {g : α → β} {l : List α} (h : ∀ x ∈ l, f x = some (g x)) :
    l.mapM f = some (l.map g) := by
  induction l with
  | nil => rfl
  | cons x xs ih =>
    rw [List.mapM_cons, h x List.mem_cons_self, ih fun y hy => h y (List.mem_cons_of_mem x hy)]
    rfl

/-- The widths a mode declares for rotation and index selection, if it has them (47_bc7 R292). -/
structure Bc7Selectors (c : Config.Bc7Mode) : Prop where
  rot : c.rot = 0 ∨ c.rot = 2
  isel : c.isel = 0 ∨ c.isel = 1

/-- Every printed BC7 mode has selectors of these widths. -/
theorem bc7Selectors_printed {m : Nat} {c : Config.Bc7Mode} (h : Config.bc7Modes[m]? = some c) : Bc7Selectors c := by
  have hsel : ∀ m : Fin 8, Bc7Selectors Config.bc7Modes[m] := by
    intro m
    fin_cases m <;> constructor <;> decide
  obtain ⟨hm, rfl⟩ := Vector.getElem?_eq_some_iff.mp h
  exact hsel ⟨m, hm⟩

section
variable {m : Nat} {c : Config.Bc7Mode} {q : Bc7Positions}

/-- The second stream, where there is one, starts right after the first and is read at its printed position. -/
theorem bc7SecondStream_getD (d : Block) (hfits : Bc7Fits m c) (hfill : Bc7StreamsFill m c) (hq : Bc7Agrees m c q) :
    ∃ r, bc7SecondStream Config.Tables.printed (b128 d) c (streamAt m c + (16 * c.n1 - c.ns)) = some r ∧
      ∀ p : Fin 16, r.1.getD p.val 0 = if c.n2 = 0 then 0 else indexOf Config.Tables.printed d q.stream2 c.n2 1 0 p.val := by
  obtain ⟨r, hr⟩ := bc7SecondStream_some (b128 d) hfits
  refine ⟨r, hr, fun p => ?_⟩
  rw [bc7SecondStream] at hr
  split at hr
  · next h0 =>
    cases hr
    rw [if_pos h0, List.getD_nil]
  · next h0 =>
    obtain ⟨⟨-, hns⟩, hwidth, -⟩ := hfill.two h0
    rw [hns, hq.stream1, hq.stream2 h0] at hr
    rw [if_neg h0]
    exact indexStream_getD hwidth hr p

/-- A block of mode `m`, pixel by pixel. -/
theorem bc7ModeDecode_eq (d : Block) (hc : Config.bc7Modes[m]? = some c) (hq : Bc7Agrees m c q) :
    bc7ModeDecode Config.Tables.printed (b128 d) m c = some (pixels (bc7PixelOf Config.Tables.printed d c q)) := by
  have hfits := bc7Fits_printed hc
  have hsel := bc7Selectors_printed hc
  have hpart : bc7Field (b128 d) (partAt m) c.pb = some (field d q.part c.pb) := by
    rw [bc7Field_eq_field d hfits.part, field_congr d hq.part]
  have hrot := bc7Field_optional d hfits.rot hsel.rot hq.rot
  have hisel := bc7Field_optional d hfits.isel hsel.isel hq.isel
  have hes := mapM_eq_map fun e he => bc7Endpoint_eq d hfits hq (List.mem_range.mp he)
  have hlt : field d q.part c.pb < 2 ^ c.pb := Nat.mod_lt _ (Nat.two_pow_pos _)
  obtain ⟨idx1, h1, -⟩ := indexStream_printed (b128 d) hfits.width1 (oneAnchorEach_of_lt hfits hlt) hfits.stream1
  obtain ⟨idx2, h2, hget2⟩ := bc7SecondStream_getD d hfits (bc7StreamsFill_printed hc) hq
  simp only [bc7ModeDecode, hpart, hrot, hisel, hes, h1, h2, Option.bind_eq_bind, Option.bind_some, Option.some.injEq]
  congr 1
  funext p
  have hns : 1 ≤ c.ns := by
    obtain h | ⟨h | h, -⟩ := hfits.subsets <;> omega
  have hsub := subset_lt Config.Tables.printed hns (field d q.part c.pb) p.val
  rw [getD_map_range _ _ (by omega), getD_map_range _ _ (by omega), indexStream_getD hfits.width1 h1 p, hget2 p, hq.stream1]
  rfl

theorem bc7Pixels_of_inMode {d : Block} (hc : Config.bc7Modes[m]? = some c) (hq : bc7Positions[m]? = some q)
    (h : Bc7InMode d m) :
    bc7Pixels Config.Tables.printed d = some (pixels (bc7PixelOf Config.Tables.printed d c q)) := by
  obtain ⟨hm, -⟩ := Vector.getElem?_eq_some_iff.mp hc
  exact (bc7Pixels_of_mode (bc7ModeNumber_of_inMode hm h) hc).trans (bc7ModeDecode_eq d hc (bc7Agrees_printed hc hq))

end

/-- Settles O51: `bc7ModeDecode_eq` for the mode that the first byte selects. -/
theorem bc7RequestsFromTheirFields : Obligations.Bc7RequestsFromTheirFields := by
  intro d s m c q hT hc hq hmode
  have htables : s.params.tables = Config.Tables.printed := hT
  refine bc7_delivers ?_
  rw [htables]
  exact bc7Pixels_of_inMode hc hq hmode

/-! Opaque modes (47_bc7 R295, R309 (d)) -/

theorem interp_self (a : Int) (w : Nat) : interp a a w = a := by
  have hsum : a * (64 - w) + a * w = 64 * a := by ring
  rw [interp, shr]
  omega

/-- A mode without alpha bits and without rotation is opaque: both endpoints have alpha 255. -/
theorem bc7PixelOf_opaque {c : Config.Bc7Mode} (hab : c.ab = 0) (hrot : c.rot = 0) (T : Config.Tables) (d : Block)
    (q : Bc7Positions) (p : Fin 16) : (bc7PixelOf T d c q p).c3 = 255 := by
  have halpha : ∀ e, (bc7E d c q e).a = 255 := fun e => if_pos hab
  have hinterp : ∀ w, interp8 255 255 w = 255 := fun w => congrArg Int.toNat (interp_self 255 w)
  simp only [bc7PixelOf, hrot, if_true, rotate, bc7Value, bc7Blend, halpha, hinterp, Rgba.pixel]
  rfl

/-- Modes 0 to 3 have neither alpha bits nor rotation (47_bc7 R292). -/
theorem bc7Modes_opaque : ∀ m : Fin 8, m.val < 4 → Config.bc7Modes[m].ab = 0 ∧ Config.bc7Modes[m].rot = 0 := by decide

/-- A block whose first byte selects one of the modes 0 to 3 decodes to opaque pixels. -/
theorem bc7Pixels_opaque {d : Block} {m : Nat} (hm : m < 4) (h : Bc7InMode d m) {px : Pixels}
    (hpx : bc7Pixels Config.Tables.printed d = some px) (p : Fin 16) : px[p].c3 = 255 := by
  have hm8 : m < 8 := by omega
  obtain ⟨hab, hrot⟩ := bc7Modes_opaque ⟨m, hm8⟩ hm
  have hdecoded := bc7Pixels_of_inMode (Vector.getElem?_eq_getElem hm8) (List.getElem?_eq_getElem (l := bc7Positions) hm8) h
  obtain rfl := Option.some.inj (hpx.symm.trans hdecoded)
  rw [pixels_getElem]
  exact bc7PixelOf_opaque hab hrot _ d _ p

/-- Settles O52: `bc7Pixels_lanes` for every block, `bc7Pixels_opaque` for the first four modes. -/
theorem bc7OpaqueModes : Obligations.Bc7OpaqueModes := by
  intro d s hT
  have htables : s.params.tables = Config.Tables.printed := hT
  obtain ⟨px, hpx⟩ := bc7Pixels_printed_some d
  obtain ⟨hexec, -⟩ := bc7_delivers (s := s) (htables ▸ hpx)
  exact ⟨_, hexec, bc7Pixels_lanes hpx, fun ⟨_, hm, h⟩ => bc7Pixels_opaque hm h hpx⟩

end Sys2Proof.Proofs
end

section
/-! PROOFS. Actions and runs: what they leave alone (70_reset_and_hazards R380, R382), the one exception (60_exceptions R351), and the
properties of whole runs (70_reset_and_hazards R390). -/

namespace Sys2Proof.Proofs

open Sys2Proof Sys2Proof.Machine Sys2Proof.Claims Sys2Proof.Laws

/-- Settles O2: without an action to come the step has nothing to perform. -/
theorem idleUnitHoldsItsRegisters : Obligations.IdleUnitHoldsItsRegisters := by
  intro s h
  rw [step, h]

/-! What an action leaves alone -/

theorem perform_params {a : Action} {s t : State} (h : perform a s = .next t) : t.params = s.params := by
  obtain ⟨-, rfl⟩ | ⟨r, -, hexec⟩ | ⟨p, -, -, rfl⟩ | ⟨-, rfl⟩ := perform_next h
  · exact resetUnit_params s
  · obtain ⟨-, px, -, rfl⟩ | ⟨-, rfl⟩ := exec_decodeRequest_next hexec
    · rfl
    · exact raiseIllegalFormat_params s r.fmt r.d
  · rfl
  · rfl

/-- `ERR` is sticky: a legal request and the reads leave it, a reserved request sets it (10_state R25). -/
theorem perform_err {a : Action} {s t : State} (ha : a ≠ .reset) (h : perform a s = .next t) (herr : s.err = true) :
    t.err = true := by
  obtain ⟨hreset, -⟩ | ⟨r, -, hexec⟩ | ⟨p, -, -, rfl⟩ | ⟨-, rfl⟩ := perform_next h
  · exact absurd hreset ha
  · obtain ⟨-, px, -, rfl⟩ | ⟨-, rfl⟩ := exec_decodeRequest_next hexec
    · exact herr
    · exact raiseIllegalFormat_err s r.fmt r.d
  · exact herr
  · exact herr

/-- A property that each action of a list keeps is kept by the whole run. -/
theorem performAll_keeps {p : State → Prop} {as : List Action}
    (hkeep : ∀ a ∈ as, ∀ s t, perform a s = .next t → p s → p t) {s t : State} (h : performAll as s = .next t) (hs : p s) :
    p t := by
  induction as generalizing s with
  | nil =>
    cases h
    exact hs
  | cons a as ih =>
    obtain ⟨u, hact, hrest⟩ := performAll_cons h
    exact ih (fun b hb => hkeep b (List.mem_cons_of_mem a hb)) hrest (hkeep a List.mem_cons_self s u hact hs)

theorem performAll_params {as : List Action} {s t : State} (h : performAll as s = .next t) : t.params = s.params :=
  performAll_keeps (p := fun u => u.params = s.params) (fun _ _ _ _ hact hu => (perform_params hact).trans hu) h rfl

/-- Settles O18: a step is idle or performs an action, and a run is actions one after the other. -/
theorem noStepWritesTheTables : Obligations.NoStepWritesTheTables := by
  refine ⟨fun a s t h => perform_params h, fun s t h => ?_, fun as s t h => performAll_params h⟩
  obtain ⟨-, rfl⟩ | ⟨a, rest, -, hact⟩ := step_next h
  · rfl
  · exact perform_params (s := { s with todo := rest }) hact

/-- Settles O9: `RESET` answers `resetUnit`, and no other action clears `ERR`. -/
theorem resetEventClearsTheStatus : Obligations.ResetEventClearsTheStatus := by
  refine ⟨fun s => ?_, fun a s t h herr hclear => ?_⟩
  · exact ⟨s.resetUnit, rfl, by simp, by simp, perform_readPx_invalid (resetUnit_valid s), by simp⟩
  · by_contra ha
    cases hclear.symm.trans (perform_err ha h herr)

/-! Requests one after the other -/

/-- Whether a request is answered depends on the parameters alone. -/
theorem answerable_of_params {s t : State} (h : t.params = s.params) {fmt : FmtCode} (hans : Answerable s fmt) :
    Answerable t fmt :=
  ⟨hans.1, fun hfmt => (congrArg Config.Params.tables h).trans (hans.2 hfmt)⟩

/-- A request that is answered if it is legal completes, and a legal one leaves `ERR`. -/
theorem exec_completes {r : Request} {s : State} (hans : legalCode r.fmt = true → Answerable s r.fmt) :
    ∃ t, exec (decodeRequest r) s = .next t ∧ (legalCode r.fmt = true → t.err = s.err) := by
  cases hl : legalCode r.fmt with
  | true =>
    obtain ⟨px, hpx⟩ := decodeFn_of_answerable (hans hl) r.d
    exact ⟨_, exec_legal hl hpx, fun _ => rfl⟩
  | false => exact ⟨_, exec_reserved hl s, nofun⟩

/-- Requests that are answered where they are legal run to the end; `ERR` stays as it was if all of them are legal. -/
theorem performAll_requests {rs : List Request} {s : State} (hans : ∀ q ∈ rs, legalCode q.fmt = true → Answerable s q.fmt) :
    ∃ t, performAll (rs.map Action.decode) s = .next t ∧ ((∀ q ∈ rs, legalCode q.fmt = true) → t.err = s.err) := by
  induction rs generalizing s with
  | nil => exact ⟨s, rfl, fun _ => rfl⟩
  | cons r rs ih =>
    rw [List.forall_mem_cons] at hans
    obtain ⟨u, hexec, herr⟩ := exec_completes hans.1
    have hparams : u.params = s.params := perform_params (a := .decode r) hexec
    obtain ⟨t, hrun, hsame⟩ := ih fun q hq hl => answerable_of_params hparams (hans.2 q hq hl)
    refine ⟨t, ?_, fun hlegal => ?_⟩
    · simp only [List.map_cons, performAll, perform, hexec, hrun]
    · rw [List.forall_mem_cons] at hlegal
      exact (hsame hlegal.2).trans (herr hlegal.1)

/-- After a legal request the response is `decodeFn` of it, whatever requests came before. -/
theorem performAll_then_request {rs : List Request} {r : Request} {s : State}
    (hans : ∀ q ∈ rs, legalCode q.fmt = true → Answerable s q.fmt) (hr : Answerable s r.fmt) :
    ∃ t, performAll ((rs ++ [r]).map Action.decode) s = .next t ∧ t.valid = true ∧ decodeFn s.params r.fmt r.d = some t.px ∧
      ((∀ q ∈ rs, legalCode q.fmt = true) → t.err = s.err) := by
  obtain ⟨u, hrun, herr⟩ := performAll_requests hans
  obtain ⟨px, hpx⟩ := decodeFn_of_answerable hr r.d
  have hexec := exec_legal (s := u) hr.1 (performAll_params hrun ▸ hpx)
  have hlast : performAll ((rs ++ [r]).map Action.decode) s = performAll [.decode r] u := by
    rw [List.map_append, performAll_append hrun]
    rfl
  rw [performAll, perform, hexec] at hlast
  exact ⟨_, hlast, rfl, hpx, herr⟩

/-- Settles O14: (a) to (c) by the response after the last request, (d) by the stickiness of `ERR`. -/
theorem propertiesOfRuns : Obligations.PropertiesOfRuns := by
  refine ⟨fun rs r s hans => ?_, fun rs rs' r s hans hr => ?_, fun r s hr => ?_, fun as s t hmem herr h => ?_⟩
  · rw [List.forall_mem_append, List.forall_mem_singleton] at hans
    obtain ⟨hrs, hr⟩ := hans
    have hparams := resetUnit_params s
    obtain ⟨t, hrun, hvalid, hpx, herr⟩ := performAll_then_request
      (fun q hq _ => answerable_of_params hparams (hrs q hq)) (answerable_of_params hparams hr)
    exact ⟨t, hrun, herr fun q hq => (hrs q hq).1, hvalid, hpx⟩
  · rw [List.forall_mem_append] at hans
    obtain ⟨t, hrun, -, hpx, -⟩ := performAll_then_request hans.1 hr
    obtain ⟨t', hrun', -, hpx', -⟩ := performAll_then_request hans.2 hr
    exact ⟨t, t', hrun, hrun', Option.some.inj (hpx.symm.trans hpx')⟩
  · obtain ⟨t, hrun, -, hpx, -⟩ := performAll_then_request (rs := []) (by simp) hr
    obtain ⟨t', hrun', -, hpx', -⟩ := performAll_then_request (rs := [r]) (by simp [hr]) hr
    exact ⟨t, t', hrun, hrun', Option.some.inj (hpx.symm.trans hpx')⟩
  · exact performAll_keeps (p := fun u => u.err = true)
      (fun a ha u v hact hu => perform_err (fun hreset => hmem (hreset ▸ ha)) hact hu) h herr

/-! The exception -/

/-- The five reserved instructions are the requests with the codes that are not legal (30_encoding R66). -/
theorem reserved_request {d : Block} {i : Instr}
    (h : i ∈ [Instr.reserved27 d, .reserved28 d, .reserved29 d, .reserved30 d, .reserved31 d]) :
    i = decodeRequest ⟨i.code, d⟩ ∧ legalCode i.code = false := by
  fin_cases h <;> exact ⟨rfl, rfl⟩

/-- Settles O11: the state is the one `raiseIllegalFormat` leaves, and from it every request completes with `ERR` still 1. -/
theorem reservedRequestsTakeIllegalFormat : Obligations.ReservedRequestsTakeIllegalFormat := by
  intro d s i hi
  obtain ⟨hrequest, hl⟩ := reserved_request hi
  have hexec := exec_reserved (r := ⟨i.code, d⟩) hl s
  rw [← hrequest] at hexec
  have hcode : 26 < i.code.toNat := by simpa [legalCode] using hl
  refine ⟨_, hexec, rfl, hcode, rfl, rfl, rfl, rfl, rfl, rfl, perform_readPx_invalid rfl, fun r hans => ?_, fun r hl' => ?_⟩
  · obtain ⟨px, hpx⟩ := decodeFn_of_answerable hans r.d
    exact ⟨_, exec_legal (s := s.raiseIllegalFormat i.code d) hans.1 hpx, rfl, rfl⟩
  · exact ⟨_, exec_reserved hl' _, rfl, rfl⟩

end Sys2Proof.Proofs
end

section
/-! PROOFS. The requester's side: the bytes of a destination pixel (48_tiler_contract R336, 20_memory R46), the asserted preconditions
(R338), and what a finished tiler leaves in the unit and in the destination (R330 to R335, R339). -/

namespace Sys2Proof.Proofs

open Sys2Proof Sys2Proof.Machine Sys2Proof.Claims Sys2Proof.Laws

/-! The conversion -/

theorem lowByte_eq (l : Lane) : lowByte l = BitVec.ofNat 8 (l.toNat % 256) :=
  BitVec.eq_of_toNat_eq (by simp [lowByte])

theorem laneBytes_eq_lowHigh (l : Lane) : laneBytes l = lowHigh l := by
  have hlow := lowByte_eq l
  have hhigh : lowByte (l >>> 8) = BitVec.ofNat 8 (l.toNat / 256) :=
    BitVec.eq_of_toNat_eq (by simp [lowByte, Nat.shiftRight_eq_div_pow])
  rw [laneBytes, hlow, hhigh, lowHigh]

theorem canonicalLayouts_ne_nil : ∀ fmt : FmtCode, canonicalLayouts fmt ≠ [] ↔ legalCode fmt = true := by decide

theorem canonicalLayouts_rgb8 : ∀ fmt ∈ [(0 : FmtCode), 5, 6], ∀ l ∈ canonicalLayouts fmt, ∃ srgb, l = .rgb8 srgb := by decide

theorem canonicalLayouts_rgba8 : ∀ fmt ∈ [(7 : FmtCode), 8, 9, 10, 11, 12, 13, 14, 15, 16, 17, 18, 25, 26],
    ∀ l ∈ canonicalLayouts fmt, ∃ srgb, l = .rgba8 srgb := by decide

theorem canonicalLayouts_r16 : ∀ fmt ∈ [(1 : FmtCode), 2], ∀ l ∈ canonicalLayouts fmt, ∃ snorm, l = .r16 snorm := by decide

theorem canonicalLayouts_rg16 : ∀ fmt ∈ [(3 : FmtCode), 4], ∀ l ∈ canonicalLayouts fmt, ∃ snorm, l = .rg16 snorm := by decide

theorem canonicalLayouts_rgbHalf : ∀ fmt ∈ [(23 : FmtCode), 24], ∀ l ∈ canonicalLayouts fmt, l = .rgbHalf := by decide

theorem canonicalLayouts_rampR : ∀ fmt ∈ [(19 : FmtCode), 20], ∀ l ∈ canonicalLayouts fmt,
    l = .requesters fmt ∨ ∃ snorm, l = .rampR snorm := by decide

theorem canonicalLayouts_rampRg : ∀ fmt ∈ [(21 : FmtCode), 22], ∀ l ∈ canonicalLayouts fmt,
    l = .requesters fmt ∨ ∃ snorm, l = .rampRg snorm := by decide

/-- Settles O57: the codes of each clause have one shape of layout, or a requester's own, and `convert` goes by the shape. -/
theorem conversionStoresTheLanes : Obligations.ConversionStoresTheLanes := by
  refine ⟨canonicalLayouts_ne_nil, fun fmt layout v hl => ⟨fun h => ?rgb8, fun h => ?rgba8, fun h => ?r16, fun h => ?rg16,
    fun h => ?rgbHalf, fun h => ?rampR, fun h => ?rampRg, fun n hn => convert_length hn v⟩⟩
  case rgb8 =>
    obtain ⟨srgb, rfl⟩ := canonicalLayouts_rgb8 fmt h layout hl
    simp only [convert, lowByte_eq]
  case rgba8 =>
    obtain ⟨srgb, rfl⟩ := canonicalLayouts_rgba8 fmt h layout hl
    simp only [convert, lowByte_eq]
  case r16 =>
    obtain ⟨snorm, rfl⟩ := canonicalLayouts_r16 fmt h layout hl
    simp only [convert, laneBytes_eq_lowHigh]
  case rg16 =>
    obtain ⟨snorm, rfl⟩ := canonicalLayouts_rg16 fmt h layout hl
    simp only [convert, laneBytes_eq_lowHigh]
  case rgbHalf =>
    obtain rfl := canonicalLayouts_rgbHalf fmt h layout hl
    simp only [convert, laneBytes_eq_lowHigh]
  case rampR =>
    obtain hown | ⟨snorm, rfl⟩ := canonicalLayouts_rampR fmt h layout hl
    · exact .inl hown
    · exact .inr (by simp only [convert, laneBytes_eq_lowHigh])
  case rampRg =>
    obtain hown | ⟨snorm, rfl⟩ := canonicalLayouts_rampRg fmt h layout hl
    · exact .inl hown
    · exact .inr (by simp only [convert, laneBytes_eq_lowHigh])

/-! The preconditions -/

/-- Settles O58: the assertions of `decompress` are the negated preconditions, one after the other. -/
theorem tilerStopsOnAFailedPrecondition : Obligations.TilerStopsOnAFailedPrecondition := by
  intro pad tex s dst hnot
  unfold decompress
  split
  · exact ⟨.format, by simp, rfl⟩
  next hlegal =>
  split
  · exact ⟨.layout, by simp, rfl⟩
  next hlayout =>
  split
  · exact ⟨.extent, by simp, rfl⟩
  next hextent =>
  split
  · exact ⟨.sourceLength, by simp, rfl⟩
  next hsource =>
  simp only [not_or, not_not] at hlegal hlayout hextent hsource
  exact absurd ⟨hlegal, hlayout.1, hlayout.2, hextent.1, hextent.2, hsource⟩ hnot

/-! What the walk leaves in the unit -/

/-- Between the two states the unit has delivered a response, and nothing else of it has changed (10_state R27). -/
def Delivered (s t : State) : Prop :=
  ∃ fmt blk px, t = { s with fmt := fmt, blk := blk, px := px, valid := true }

theorem Delivered.trans {s t u : State} (h : Delivered s t) (h' : Delivered t u) : Delivered s u := by
  obtain ⟨_, _, _, rfl⟩ := h
  obtain ⟨_, _, _, rfl⟩ := h'
  exact ⟨_, _, _, rfl⟩

theorem tileBlock_delivered {pad : Nat → Nat → Byte} {t : Texture} {b : BlockPos} {s u : State} {dst dst' : Image}
    (hl : legalCode t.fmt = true) (h : tileBlock pad t b s dst = .ok (u, dst')) : Delivered s u := by
  obtain ⟨hissue, -⟩ := tileBlock_ok h
  obtain ⟨-, px, -, rfl⟩ | ⟨hreserved, -⟩ := exec_decodeRequest_next (issueBlock_ok hissue)
  · exact ⟨_, _, _, rfl⟩
  · cases hl.symm.trans hreserved

/-- If a list of blocks is tiled, its first block is and then the others are. -/
theorem tileBlocks_cons {pad : Nat → Nat → Byte} {t : Texture} {b : BlockPos} {bs : List BlockPos} {s u : State}
    {dst dst' : Image} (h : tileBlocks pad t (b :: bs) s dst = .ok (u, dst')) :
    ∃ s₁ dst₁, tileBlock pad t b s dst = .ok (s₁, dst₁) ∧ tileBlocks pad t bs s₁ dst₁ = .ok (u, dst') := by
  rw [tileBlocks] at h
  split at h
  · next s₁ dst₁ hfirst => exact ⟨s₁, dst₁, hfirst, h⟩
  · cases h

theorem tileBlocks_delivered {pad : Nat → Nat → Byte} {t : Texture} (hl : legalCode t.fmt = true) {bs : List BlockPos}
    {s u : State} {dst dst' : Image} (h : tileBlocks pad t bs s dst = .ok (u, dst')) : bs = [] ∧ u = s ∨ Delivered s u := by
  induction bs generalizing s dst with
  | nil =>
    cases h
    exact .inl ⟨rfl, rfl⟩
  | cons b bs ih =>
    obtain ⟨s₁, dst₁, hfirst, hrest⟩ := tileBlocks_cons h
    have hdelivered := tileBlock_delivered hl hfirst
    obtain ⟨-, rfl⟩ | hmore := ih hrest
    · exact .inr hdelivered
    · exact .inr (hdelivered.trans hmore)

/-! What the walk leaves in the destination -/

/-- An image still allocated as another one is: the same layout with the bytes it gives a pixel, the same extent, the same number of
pixels (20_memory R42). -/
structure AllocatedAs (dst i : Image) : Prop where
  layout : i.layout = dst.layout
  fits : i.texelsFit = true
  extent : i.extent = dst.extent
  size : i.texels.length = dst.texels.length

theorem AllocatedAs.commit {dst i : Image} (h : AllocatedAs dst i) (resp : BlockPos → Pixels) (e : Event) :
    AllocatedAs dst (commit resp i e) := by
  cases e with
  | issue b => exact h
  | copy b p =>
    by_cases hin : Inside i.extent b p
    · rw [commit_inside resp hin]
      exact ⟨h.layout, put_texelsFit h.fits _ _ _ _, h.extent, by simpa using h.size⟩
    · rwa [commit_outside resp hin]

theorem allocatedAs_foldl {dst : Image} (hfit : dst.texelsFit = true) (resp : BlockPos → Pixels) (es : List Event) :
    AllocatedAs dst (es.foldl (commit resp) dst) :=
  List.foldlRecOn es (commit resp) ⟨rfl, hfit, rfl, rfl⟩ fun _ h e _ => h.commit resp e

/-- The tiler completes, with the effect of all the events of its walk on the destination. -/
theorem decompress_eq_foldl {tex : Texture} {dst : Image} {s : State} (hready : TilerReady tex dst)
    {resp : BlockPos → Pixels} (hresp : Responses s.params tex resp) (pad : Nat → Nat → Byte) :
    ∃ t, decompress pad tex s dst = .ok (t, ((walk tex.extent).flatMap blockEvents).foldl (commit resp) dst) := by
  rw [decompress_of_ready hready]
  exact tileBlocks_eq_foldl hready.1 pad _ hresp dst

/-- Settles O55: the unit has delivered a response for every block, and the events keep the destination's allocation. -/
theorem tilerCompletes : Obligations.TilerCompletes := by
  intro pad tex s dst hready hans
  obtain ⟨resp, hresp⟩ := exists_responses hans
  obtain ⟨t, hrun⟩ := decompress_eq_foldl hready hresp pad
  rw [decompress_of_ready hready] at hrun ⊢
  obtain ⟨hl, -, hfit, -⟩ := hready
  obtain ⟨hlayout, hfit', hextent, hsize⟩ := allocatedAs_foldl hfit resp ((walk tex.extent).flatMap blockEvents)
  refine ⟨t, _, hrun, ?_⟩
  obtain ⟨hnil, rfl⟩ | ⟨_, _, _, rfl⟩ := tileBlocks_delivered hl hrun
  · exact ⟨rfl, rfl, rfl, rfl, fun hne => absurd hnil hne, hlayout, hfit', hextent, hsize⟩
  · exact ⟨rfl, rfl, rfl, rfl, fun _ => rfl, hlayout, hfit', hextent, hsize⟩

/-! One pixel of the finished image -/

theorem mul_add_lt {n a m r : Nat} (ha : a < m) (hr : r < n) : a * n + r < m * n := by
  rw [Nat.mul_comm a n]
  exact Nat.mul_add_lt_mul_of_lt_of_lt ha hr

theorem texelIndex_lt {e : Extent} {x y z : Nat} (hx : x < e.w) (hy : y < e.h) (hz : z < e.d) :
    texelIndex e x y z < e.pixelCount := by
  have hcount : e.d * e.h * e.w = e.pixelCount := by
    rw [Extent.pixelCount]
    ring
  exact (mul_add_lt (mul_add_lt hz hy) hx).trans_eq hcount

/-- The block that holds pixel (`x`, `y`, `z`) (48_tiler_contract R330, R331). -/
def blockAt (x y z : Nat) : BlockPos := ⟨x / 4, y / 4, z⟩

/-- The number of that pixel in its block (00_scope R13). -/
def pixelAt (x y : Nat) : Fin 16 := ⟨4 * (y % 4) + x % 4, by omega⟩

theorem pixelAt_column (x y : Nat) : 4 * (x / 4) + (pixelAt x y).val % 4 = x := by
  simp only [pixelAt]
  omega

theorem pixelAt_row (x y : Nat) : 4 * (y / 4) + (pixelAt x y).val / 4 = y := by
  simp only [pixelAt]
  omega

theorem inside_blockAt {e : Extent} {x y : Nat} (hx : x < e.w) (hy : y < e.h) (z : Nat) :
    Inside e (blockAt x y z) (pixelAt x y) :=
  ⟨(pixelAt_column x y).trans_lt hx, (pixelAt_row x y).trans_lt hy⟩

theorem blockIndex_blockAt (e : Extent) (x y z : Nat) : blockIndex e (blockAt x y z) = blockOf e x y z := rfl

theorem mem_walk {e : Extent} {b : BlockPos} : b ∈ walk e ↔ b.x < e.nx ∧ b.y < e.ny ∧ b.z < e.nz := by
  obtain ⟨x, y, z⟩ := b
  simp only [walk, List.mem_flatMap, List.mem_map, List.mem_range, BlockPos.mk.injEq]
  constructor
  · rintro ⟨z', hz, y', hy, x', hx, rfl, rfl, rfl⟩
    exact ⟨hx, hy, hz⟩
  · rintro ⟨hx, hy, hz⟩
    exact ⟨z, hz, y, hy, x, hx, rfl, rfl, rfl⟩

theorem blockAt_mem_walk {e : Extent} {x y z : Nat} (hx : x < e.w) (hy : y < e.h) (hz : z < e.d) : blockAt x y z ∈ walk e := by
  simp only [mem_walk, blockAt, Extent.nx, Extent.ny, Extent.nz, footprint]
  omega

/-- The copy of every pixel of the image is among the events of the walk. -/
theorem copy_mem_walkEvents {e : Extent} {x y z : Nat} (hx : x < e.w) (hy : y < e.h) (hz : z < e.d) :
    Event.copy (blockAt x y z) (pixelAt x y) ∈ (walk e).flatMap blockEvents :=
  List.mem_flatMap.mpr ⟨blockAt x y z, blockAt_mem_walk hx hy hz, by simp [blockEvents]⟩

/-- The copy of a pixel gives it its final bytes: since events commute, it may as well come last. -/
theorem foldl_commit_writes {resp : BlockPos → Pixels} {es : List Event} {x y z : Nat} {dst : Image}
    (hmem : Event.copy (blockAt x y z) (pixelAt x y) ∈ es) (hx : x < dst.extent.w) (hy : y < dst.extent.h)
    (hplace : texelIndex dst.extent x y z < dst.texels.length) (hfit : dst.texelsFit = true) :
    (es.foldl (commit resp) dst).texels[texelIndex dst.extent x y z]? =
      some (convert dst.layout (resp (blockAt x y z))[pixelAt x y]) := by
  obtain ⟨before, after, rfl⟩ := List.append_of_mem hmem
  have hlast : (before ++ .copy (blockAt x y z) (pixelAt x y) :: after).Perm
      (before ++ after ++ [.copy (blockAt x y z) (pixelAt x y)]) :=
    List.perm_middle.trans (List.perm_append_singleton _ _).symm
  obtain ⟨hlayout, -, hextent, hsize⟩ := allocatedAs_foldl hfit resp (before ++ after)
  rw [foldl_commit_perm resp hlast, List.foldl_append, List.foldl_cons, List.foldl_nil,
    commit_inside resp (hextent.symm ▸ inside_blockAt hx hy z)]
  simp only [blockAt, pixelAt_column, pixelAt_row, put_texels, hlayout, hextent]
  exact List.getElem?_set_self (hsize ▸ hplace)

/-- Settles O56: the copy of the pixel is one of the walk's events, and the response it copies is that of the pixel's block. -/
theorem tilerWritesEveryPixel : Obligations.TilerWritesEveryPixel := by
  intro pad tex s dst hready hans
  obtain ⟨resp, hresp⟩ := exists_responses hans
  obtain ⟨t, hrun⟩ := decompress_eq_foldl hready hresp pad
  refine ⟨t, _, hrun, fun x y z hx hy hz => ⟨resp (blockAt x y z), hresp (blockAt x y z), ?_⟩⟩
  obtain ⟨-, -, hfit, hextent, hsize, -⟩ := hready
  rw [← hextent] at hx hy hz ⊢
  exact foldl_commit_writes (copy_mem_walkEvents hx hy hz) hx hy (hsize ▸ texelIndex_lt hx hy hz) hfit

end Sys2Proof.Proofs
end
